-- ==== Sys2Proof/Word.lean ====
section
/-! DEFINITION. The word types of the frames and records, and reading and replacing one place of a
fixed-size table. -/

namespace Sys2Proof

/-- One byte of a frame, a record or a name. -/
abbrev Byte := BitVec 8

/-- A two-byte field of an event record, or one word of an identity record. -/
abbrev Half := BitVec 16

/-- A four-byte field: an epoch, a generation, a serial, a check word, a change count. -/
abbrev Word := BitVec 32

/-- The value at place `i` of a fixed-size table. -/
def look {α : Type} {n : Nat} (v : Vector α n) (i : Fin n) : α := v[i]

/-- The table with place `i` replaced. -/
def put {α : Type} {n : Nat} (v : Vector α n) (i : Fin n) (x : α) : Vector α n := v.set i.val x i.isLt

/-- Every index of a table of `n` places, ascending. -/
def allFin (n : Nat) : List (Fin n) := List.finRange n

/-- The table that repeats one value. -/
def fill {α : Type} (n : Nat) (x : α) : Vector α n := Vector.replicate n x

/-- Whether some place of a table of flags is set. -/
def anySet {n : Nat} (v : Vector Bool n) : Bool := v.toList.any id

/-- How many places of a table of flags are set. -/
def countSet {n : Nat} (v : Vector Bool n) : Nat := v.toList.countP id

end Sys2Proof
end

