-- ==== Sys2Proof/Syntax.lean ====
section
/-! DEFINITION. The commands of the part, one constructor for each row of spec/opcode_table.json, and
the operands they carry. A request carries the header of its frame and its operands as the manual
names them; a module event carries the fields of the reply; an expiry names its timer. -/

namespace Sys2Proof

/-! ## Places of the chassis (section 1.2 of the introduction) -/

/-- A port-blade slot; slot number = index + 1. -/
abbrev Slot := Fin 8
/-- A power-supply bay; bay number = index + 1. -/
abbrev Bay := Fin 4
/-- A fan tray; tray number = index + 1. -/
abbrev Tray := Fin 4

/-- The two control-processor slots. -/
inductive Cp where
  | cpA | cpB
  deriving DecidableEq, Repr

/-- A module position: the device has eighteen (chapter 1). -/
inductive Position where
  | slot (s : Slot)
  | cp (c : Cp)
  | bay (b : Bay)
  | tray (t : Tray)
  deriving DecidableEq, Repr

/-- A global port as slot and local port: global number = index of slot × 48 + local port (R93). -/
structure Port where
  slot : Slot
  idx : Fin 48
  deriving DecidableEq, Repr

/-- The two airflow zones. -/
inductive AirZone where
  | zoneL | zoneR
  deriving DecidableEq, Repr

/-- The three management links. -/
inductive LinkId where
  | linkA | linkB | service
  deriving DecidableEq, Repr

/-- The three stored sections (section 10.5). -/
inductive StoreSection where
  | config | licences | zoning
  deriving DecidableEq, Repr

/-! ## Request operands -/

/-- What a request frame carries beside its operands: the link it came on, its tag, the epoch it
carries, and whether its operands have the size the request defines (test 4 of R174; the manual
gives no operand sizes). -/
structure Header where
  link : LinkId
  tag : Byte
  epoch : Word
  sized : Bool
  deriving DecidableEq, Repr

/-- The position a REQUALIFY names (R7), as carried. -/
inductive PositionName where
  | slotNumber (n : Nat)
  | cp (c : Cp)
  | bayNumber (n : Nat)
  | trayNumber (n : Nat)
  | other
  deriving DecidableEq, Repr

/-- The eleven readable tables (R176). -/
inductive Table where
  | slot | bay | tray | port | licence | alarm
  | zoneDefined | zoneStaged | configDefined | configStaged | zoneActive
  deriving DecidableEq, Repr

/-- Direction of a cursor (R177). -/
inductive Direction where
  | up | down
  deriving DecidableEq, Repr

/-- Redundancy policy (R27). -/
inductive Policy where
  | none | nPlus1 | nPlusN
  deriving DecidableEq, Repr

/-- Report scale (R30). -/
inductive Scale where
  | watts | halfWatts | quarterWatts
  deriving DecidableEq, Repr

/-- A breakpoint of the fan curve as carried: temperature in half-degrees, duty in percent (R66). -/
structure Breakpoint where
  temp : Int
  duty : Int
  deriving DecidableEq, Repr

/-- The six fields of a licence as INSTALL LICENCE carries them (section 4.1). -/
structure LicenceFields where
  serial : Word
  kind : Byte
  units : Half
  minutes : Word
  bound : Word
  check : Word
  deriving DecidableEq, Repr

/-- A zone or configuration name, as the bytes of its characters. -/
abbrev Name := List Byte

/-- A zone member as carried: PORT with a number, NODE with a node name, or another kind (R113). -/
inductive RawMember where
  | port (n : Nat)
  | node (n : BitVec 64)
  | other
  deriving DecidableEq, Repr

/-- Default access (R110). -/
inductive Access where
  | allAccess | noAccess
  deriving DecidableEq, Repr

/-- The two hold kinds (R153). -/
inductive HoldKind where
  | zoningFreeze | coolingOverride
  deriving DecidableEq, Repr

/-- What ACKNOWLEDGE ALARM names (R160). -/
inductive AlarmTarget where
  | point (n : Nat)
  | all
  deriving DecidableEq, Repr

/-- A set of event classes (R169). -/
structure ClassMask where
  inventory : Bool
  power : Bool
  cooling : Bool
  licence : Bool
  port : Bool
  zoning : Bool
  role : Bool
  alarm : Bool
  deriving DecidableEq, Repr

/-! ## Starts and link events -/

/-- What causes a warm restart (R180): the response to RESTART PART has been sent, or the restart
input line is asserted. -/
inductive RestartCause where
  | requested | line
  deriving DecidableEq, Repr

/-- What causes a link reset (R175): the link goes DOWN, or the response to RESET LINK has been
sent. -/
inductive LinkResetCause where
  | down | responseSent
  deriving DecidableEq, Repr

/-! ## Module replies, as named fields (section 1.5 of the introduction) -/

/-- The four module kinds (section 1.3). -/
inductive ModuleKind where
  | portBlade | controlProcessor | powerSupply | fanTray
  deriving DecidableEq, Repr

/-- The reply to an identity read: what its first word names (`none`: none of the four kinds; the
manual gives the kinds no numbers), and every word of the record in order, check word included. -/
structure IdentityReply where
  kind : Option ModuleKind
  words : List Half
  deriving DecidableEq, Repr

/-- Output state of a power supply (R9). -/
inductive OutputState where
  | off | on | fault
  deriving DecidableEq, Repr

/-- Input class of a power supply (R9). -/
inductive InputClass where
  | high | low | none
  deriving DecidableEq, Repr

/-- Poll fields of a port blade (R9); a fault code of `none` is no fault, an absent field is `none`. -/
structure BladePoll where
  ready : Bool
  fault : Option Byte
  sensor1 : Option Int
  sensor2 : Option Int
  held : Option Word
  draw : Nat
  deriving DecidableEq, Repr

/-- Poll fields of a power supply (R9). -/
structure SupplyPoll where
  output : OutputState
  input : InputClass
  inlet : Int
  watts : Nat
  limit : Option Nat
  deriving DecidableEq, Repr

/-- The reply to a status poll (R9). An output state or input class that names no listed value is
carried as `none`. -/
inductive PollReply where
  | blade (r : BladePoll)
  | cp (sensor : Option Int)
  | supply (output : Option OutputState) (input : Option InputClass) (inlet : Int) (watts : Nat)
      (limit : Option Nat)
  | tray (rotor1 rotor2 rotor3 : Nat)
  deriving DecidableEq, Repr

/-- The commands: one constructor for each row of spec/opcode_table.json, in the table's order. DESIGN CHOICE:
`declareStandby` and `setAutoPower` carry their operand as a Bool, since R146 and R11 answer no other value
(assumption 23). -/
inductive Instr where
  | powerOnReset (serial : Option Word)
  | warmRestart (cause : RestartCause) (serial : Option Word)
  | sectionLoadComplete (sec : StoreSection) (good : Bool)
  | endOfStarting
  | linkUp (link : LinkId)
  | linkReset (link : LinkId) (cause : LinkResetCause)
  | frameDiscarded (link : LinkId) (bytes : List Byte)
  | unknownRequest (h : Header) (code : Byte)
  | getStatus (h : Header)
  | resetLink (h : Header)
  | restartPart (h : Header)
  | setCursor (h : Header) (table : Option Table) (start : Nat) (dir : Option Direction)
  | readCursor (h : Header) (n : Nat)
  | requalify (h : Header) (pos : PositionName)
  | setAutoPower (h : Header) (slot : Nat) (on : Bool)
  | powerSlotOn (h : Header) (slot : Nat)
  | powerSlotOff (h : Header) (slot : Nat)
  | clearSticky (h : Header)
  | readLedger (h : Header)
  | setRedundancyPolicy (h : Header) (policy : Option Policy)
  | setGraceTime (h : Header) (seconds : Nat)
  | setHeadroomWarning (h : Header) (percent : Nat)
  | setReportScale (h : Header) (scale : Option Scale)
  | setShedPriority (h : Header) (slots : List Nat)
  | setAutoRestore (h : Header) (on : Option Bool)
  | setFanCurve (h : Header) (points : List Breakpoint)
  | setHysteresis (h : Header) (value : Int)
  | setTrayMinimum (h : Header) (duty : Int)
  | setTemperatureThresholds (h : Header) (warn crit shutdown : Int)
  | readCooling (h : Header)
  | installLicence (h : Header) (lic : LicenceFields)
  | removeLicence (h : Header) (serial : Word)
  | releasePortUnit (h : Header) (port : Nat)
  | setParkTime (h : Header) (seconds : Nat)
  | readLicencePool (h : Header)
  | enablePorts (h : Header) (first last : Nat)
  | disablePorts (h : Header) (first last : Nat)
  | openTransaction (h : Header)
  | createZone (h : Header) (name : Name)
  | renameZone (h : Header) (zone : Nat) (name : Name)
  | deleteZone (h : Header) (zone : Nat)
  | addMember (h : Header) (zone : Nat) (member : RawMember)
  | removeMember (h : Header) (zone : Nat) (member : RawMember)
  | createConfiguration (h : Header) (name : Name) (zone : Nat)
  | deleteConfiguration (h : Header) (cfg : Nat)
  | addZoneToConfiguration (h : Header) (cfg zone : Nat)
  | removeZoneFromConfiguration (h : Header) (cfg zone : Nat)
  | selectActiveConfiguration (h : Header) (cfg : Option Nat)
  | setDefaultAccess (h : Header) (access : Option Access)
  | abortTransaction (h : Header)
  | readZoning (h : Header)
  | commit (h : Header)
  | claimActive (h : Header)
  | renew (h : Header)
  | declareStandby (h : Header) (ready : Bool)
  | yieldActive (h : Header)
  | releaseActive (h : Header)
  | setLeaseTime (h : Header) (ms : Nat)
  | setHold (h : Header) (kind : Option HoldKind)
  | releaseHold (h : Header) (kind : Option HoldKind)
  | readRoles (h : Header)
  | acknowledgeAlarm (h : Header) (target : AlarmTarget)
  | cutOffAudible (h : Header)
  | readAlarmSummary (h : Header)
  | fetchEvents (h : Header) (n : Nat)
  | setEventMask (h : Header) (mask : ClassMask)
  | setQueueDepth (h : Header) (depth : Nat)
  | readEventQueue (h : Header)
  | presenceInputChange (pos : Position) (present : Bool)
  | debounceTimerExpiry (pos : Position)
  | identityReadReply (pos : Position) (reply : IdentityReply)
  | identityReadTimeout
  | statusPollReply (pos : Position) (reply : PollReply)
  | statusPollTimeout
  | pollTimerExpiry (pos : Position)
  | readyTimerExpiry (slot : Slot)
  | powerEnableReply (slot : Slot)
  | portEnableReply (port : Port)
  | portDisableReply (port : Port)
  | bladeCommandTimeout
  | untakenReply (pos : Position)
  | pushReply (slot : Slot) (gen : Word)
  | pushTimeout
  | repushTimerExpiry (slot : Slot)
  | graceTimerExpiry
  | restoreTimerExpiry
  | updateTimerExpiry (zone : AirZone)
  | uptimeMinuteTimerExpiry
  | parkTimerExpiry (slot : Slot)
  | validationComplete
  | storeWriteStart
  | storeWriteComplete (good : Bool)
  | leaseTimerExpiry
  | settleTimerExpiry
  deriving DecidableEq, Repr

end Sys2Proof
end

