-- ==== Sys2Proof/Config.lean ====
section
/-! DEFINITION. The fixed times of the manual, and the values the manual leaves open (opaque: no value
of theirs can be proved or evaluated). -/

namespace Sys2Proof.Config

/-- Debounce time of a presence input, ms (R4). -/
def debounceMs : Nat := 100
/-- Poll timer, ms (R8). -/
def pollMs : Nat := 250
/-- Ready timer of a POWERING slot, ms (R14). -/
def readyMs : Nat := 5000
/-- Reply timeout of blade commands, identity reads and status polls, ms (table of section 1.1). -/
def replyMs : Nat := 20
/-- Reply timeout of a push, ms (table of section 1.1). -/
def pushMs : Nat := 2000
/-- Re-push timer of a STALE slot, ms (R133). -/
def repushMs : Nat := 30000
/-- Settle timer, ms (R152). -/
def settleMs : Nat := 30000
/-- Limit of STARTING, ms (R181). -/
def startLimitMs : Nat := 5000
/-- Update timer of an airflow zone, ms (R56). -/
def updateMs : Nat := 1000
/-- Uptime minute timer, ms (R77). -/
def minuteMs : Nat := 60000
/-- The most module-internal notices carried out inside one command (assumption 4). -/
def agendaBound : Nat := 1000

/-- The module serial the device works with for a blade whose identity record was never read
(FAULTED with NOT_ADOPTED, then powered): the manual states none (assumption 6). -/
opaque unreadSerial : Word
/-- The port count of such a blade in a held record (assumption 6). -/
opaque unreadPortCount : Nat
/-- The base power, in watts, of such a blade (assumption 6). -/
opaque unreadBasePower : Nat
/-- The per-port allocation, in qW, of such a blade (assumption 6). -/
opaque unreadAllocation : Nat
/-- The enforcement capacity of such a blade (assumption 6). -/
opaque unreadCapacity : Nat

/-- Whether the queue of a link that comes UP again is emptied: R175 says that it is empty, and R168 that a link
that comes up finds its line asserted when records have queued in the meantime (assumption 40). -/
opaque emptiesWhenUpAgain : Bool

end Sys2Proof.Config
end

