-- ==== Sys2Proof/Machine/State.lean ====
section
/-! DEFINITION. The state of the part as plain data, block by block as section 1.3 of the introduction
lists them, the reasons a step can stop, and the state right after a power-on reset. -/

namespace Sys2Proof.Machine

/-- Why the machine would stop with a fault. No command of the table stops with one: every event of
the manual has an effect, so there is no constructor. -/
inductive Fault
  deriving DecidableEq, Repr

/-- Why a command has no meaning. -/
inductive Refusal where
  /-- Raised only by an arm of `exec` whose command has no meaning yet. Safe: the machine stops where
  the part goes on. -/
  | notModelled (mnemonic : String)
  deriving DecidableEq, Repr

/-! ## Inventory (chapter 1) -/

/-- A debounce timer with its candidate (R4). -/
structure Debounce where
  left : Nat
  candidate : Bool
  deriving DecidableEq, Repr

/-- What the inventory keeps for every one of the eighteen positions (R4, R6, R8). -/
structure PosCtl where
  /-- the presence input line -/
  input : Bool
  /-- the taken presence: PRESENT is `true` -/
  taken : Bool
  /-- the debounce timer, `none` while stopped -/
  debounce : Option Debounce
  /-- whether a presence value has been taken since the last start -/
  judged : Bool
  /-- attempt count of the qualification handshake -/
  attempts : Nat
  /-- poll timer, `none` while stopped -/
  pollTimer : Option Nat
  deriving DecidableEq, Repr

/-- Identity record of a port blade (section 1.3). -/
structure BladeIdentity where
  serial : Word
  portCount : Nat
  baseCount : Nat
  basePower : Nat
  allocation : Nat
  capacity : Nat
  deriving DecidableEq, Repr

/-- Identity record of a control processor. -/
structure CpIdentity where
  serial : Word
  power : Nat
  deriving DecidableEq, Repr

/-- Identity record of a power supply. -/
structure SupplyIdentity where
  serial : Word
  highLine : Nat
  lowLine : Nat
  deriving DecidableEq, Repr

/-- Identity record of a fan tray. -/
structure TrayIdentity where
  serial : Word
  maxSpeed : Nat
  power : Nat
  deriving DecidableEq, Repr

/-- States of a port-blade slot, in the order of the table of section 1.6. -/
inductive SlotState where
  | empty | qualifying | rejected | off | powering | powered | faulted | shed | thermalOff
  deriving DecidableEq, Repr

/-- States of a control-processor slot, in the order of R18. -/
inductive CpState where
  | empty | qualifying | present | rejected
  deriving DecidableEq, Repr

/-- States of a bay, in the order of R19. -/
inductive BayState where
  | absent | qualifying | rejected | standby | online | degraded | failed
  deriving DecidableEq, Repr

/-- States of a tray, in the order of R21. -/
inductive TrayState where
  | absent | qualifying | rejected | running | degraded | failed
  deriving DecidableEq, Repr

/-- Cause codes of inventory events, in the order of the list of R24. -/
inductive Cause where
  | presence | absence
  | qualified | rejectedTimeout | rejectedCheck | rejectedFit
  | request
  | admitted | ready
  | faultCode | readyTimeout | notReady | commandTimeout
  | shed | thermal | restored
  | adopted | notAdopted
  | poll
  | unresponsive | responsive
  deriving DecidableEq, Repr

/-- Enforcement state of a slot, numbered as R140 numbers it. -/
inductive Enforcement where
  | none | pending | current | previous | stale | tooSmall
  deriving DecidableEq, Repr

/-- The SLOT table's entry of a port-blade slot (R176): state, cause, flag, identity record, poll
status record (fields of the last accepted reply and missed count, R9), auto-power flag (R11),
enforcement state and attempt count (chapter 7). -/
structure SlotEntry where
  state : SlotState
  cause : Option Cause
  unresponsive : Bool
  missed : Nat
  identity : Option BladeIdentity
  poll : Option BladePoll
  autoPower : Bool
  enforcement : Enforcement
  attempt : Nat
  deriving DecidableEq, Repr

/-- The held record of a blade kept over a warm restart (R22). -/
structure HeldBlade where
  serial : Word
  portCount : Nat
  enabled : Vector Bool 48
  deriving DecidableEq, Repr

/-- What is kept for a port-blade slot beside its table entry. -/
structure SlotAux where
  /-- power-enable output line: asserted is `true` (R14, R16) -/
  line : Bool
  /-- ready timer (R14) -/
  readyTimer : Option Nat
  /-- record of enabled ports (R22) -/
  enabled : Vector Bool 48
  /-- held record of an adoption candidate (R22, R23) -/
  held : Option HeldBlade
  /-- the candidate's identity has passed and matched (R23) -/
  matched : Bool
  /-- park timer (R85) -/
  parkTimer : Option Nat
  /-- re-push timer (R133) -/
  repushTimer : Option Nat
  /-- adopted before the zoning section was judged: the held generation kept (R139) -/
  kept : Option (Option Word)
  /-- port manager's input: the slot is POWERED (R93) -/
  powered : Bool
  /-- port manager's input: the slot's enforcement admits traffic (R93) -/
  admits : Bool
  deriving DecidableEq, Repr

/-- The SLOT table's entry of a control-processor slot (R18, R176). -/
structure CpEntry where
  state : CpState
  cause : Option Cause
  unresponsive : Bool
  missed : Nat
  identity : Option CpIdentity
  /-- fields of the last accepted reply: the sensor, itself possibly absent -/
  poll : Option (Option Int)
  deriving DecidableEq, Repr

/-- The BAY table's entry (R19, R176), less the supply figure, which the ledger holds. The cause of the
last change of state is kept with it (R6); R176 does not list it among what an entry gives. -/
structure BayEntry where
  state : BayState
  cause : Option Cause
  unresponsive : Bool
  missed : Nat
  identity : Option SupplyIdentity
  poll : Option SupplyPoll
  deriving DecidableEq, Repr

/-- The TRAY table's entry (R21, R176): applied duty is the fan drive output (R59). The cause of the
last change of state is kept with it (R6); R176 does not list it among what an entry gives. -/
structure TrayEntry where
  state : TrayState
  cause : Option Cause
  identity : Option TrayIdentity
  /-- reported speeds of the last accepted reply, rotor 1 to 3 of the tray -/
  speeds : Option (Vector Nat 3)
  /-- failed flags (R20) -/
  failed : Vector Bool 3
  /-- applied duty, percent -/
  duty : Nat
  deriving DecidableEq, Repr

/-- What is kept for a tray beside its table entry (R10, R20). -/
structure TrayAux where
  unresponsive : Bool
  missed : Nat
  low : Vector Nat 3
  good : Vector Nat 3
  deriving DecidableEq, Repr

/-! ## Module bus scheduler (section 1.1) -/

/-- A module transaction: the object and kind of R2. -/
inductive Txn where
  | powerEnable (s : Slot)
  | portCommand (p : Port) (enable : Bool)
  | push (s : Slot)
  | identity (pos : Position)
  | poll (pos : Position)
  deriving DecidableEq, Repr

/-- A zone member (R108). -/
inductive Member where
  | port (p : Port)
  | node (n : BitVec 64)
  deriving DecidableEq, Repr

/-- Access mode of an enforcement image (R126). -/
inductive AccessMode where
  | zoned | allAccess | noAccess
  deriving DecidableEq, Repr

/-- One zone of an enforcement image: index, NODE members, local PORT numbers (R126). -/
structure ImageZone where
  zone : Nat
  nodes : List (BitVec 64)
  ports : List (Fin 48)
  deriving DecidableEq, Repr

/-- An enforcement image (R126). -/
structure Image where
  gen : Word
  mode : AccessMode
  zones : List ImageZone
  deriving DecidableEq, Repr

/-- The running transaction (R1): time left to its reply timeout, the image it carries when it is a
push (fixed when it started, R2), and whether its asker treats it as withdrawn (R3). -/
structure Running where
  txn : Txn
  left : Nat
  image : Option Image
  withdrawn : Bool
  deriving DecidableEq, Repr

/-- The scheduler: waiting transactions in the order queued, and the running one (R1, R2). -/
structure Bus where
  waiting : List Txn
  running : Option Running
  deriving DecidableEq, Repr

/-! ## Power ledger (chapter 2) -/

/-- Overcommit state (section 2.7). -/
inductive Overcommit where
  | closed | grace | shedding
  deriving DecidableEq, Repr

/-- A running restore pass (R48): the slots not yet offered, and the admitted candidate that has not
yet left POWERING. -/
structure RestorePass where
  remaining : Vector Bool 8
  waiting : Option Slot
  deriving DecidableEq, Repr

/-- The readout set (R30). -/
structure Readouts where
  bay : Vector Int 4
  raw : Int
  available : Int
  cps : Int
  trays : Int
  blades : Int
  grants : Int
  demand : Int
  headroom : Int
  measured : Int
  margin : Int
  deriving DecidableEq, Repr

/-- The ledger's state (section 2.1), its settings apart; all quantities in qW. The grant set is the
`grant` field of the port rows. -/
structure Ledger where
  figure : Vector Int 4
  raw : Int
  available : Int
  cps : Int
  trays : Int
  blades : Int
  grants : Int
  demand : Int
  headroom : Int
  measured : Int
  margin : Int
  readouts : Readouts
  /-- some readout of the current set is saturated (R30, R32) -/
  saturated : Bool
  charged : Vector Bool 8
  overcommit : Overcommit
  graceTimer : Option Nat
  restoreTimer : Option Nat
  order : Option Slot
  shedSet : Vector Bool 8
  pass : Option RestorePass
  passEnd : Option Int
  low : Bool
  headroomLow : Bool
  clamp : Bool
  redundancyLost : Bool
  deriving DecidableEq, Repr

/-! ## Cooling (chapter 3) -/

/-- Temperature state of a zone (section 3.6). -/
inductive TempState where
  | normal | warn | crit | shutdown
  deriving DecidableEq, Repr

/-- What the controller keeps per airflow zone (section 3.1). -/
structure ZoneCtl where
  tz : Int
  unknown : Bool
  temp : TempState
  demand : Nat
  target : Nat
  updateTimer : Option Nat
  deriving DecidableEq, Repr

/-- The cooling controller: zones L and R, and the contributing modules (R53). -/
structure Cooling where
  zones : Vector ZoneCtl 2
  slots : Vector Bool 8
  cps : Vector Bool 2
  deriving DecidableEq, Repr

/-! ## Licence pool (chapter 4) -/

/-- A licence record of the table: the six fields as held and its state (section 4.1). -/
structure LicenceRec where
  fields : LicenceFields
  expired : Bool
  deriving DecidableEq, Repr

/-- The licence pool; the unit state of each port stands in its row. -/
structure Pool where
  table : List LicenceRec
  capacity : Nat
  /-- adoption claim list, ascending (R90) -/
  claims : List Port
  minuteTimer : Option Nat
  minutes : Nat
  /-- rows waiting for a unit (R88) -/
  waiting : Nat
  deficit : Bool
  expiring : Bool
  deriving DecidableEq, Repr

/-! ## Port table (chapter 5) -/

/-- Licence class of a row (R80). -/
inductive LicenceClass where
  | base | pool | nonexistent
  deriving DecidableEq, Repr

/-- Unit state of a port (R81). -/
inductive UnitState where
  | none | assigned | parked
  deriving DecidableEq, Repr

/-- Down reasons (R94), in the order of the checks. -/
inductive DownReason where
  | bladeOff | adminDown | zoneHold | unlicensed | noPower
  deriving DecidableEq, Repr

/-- The five row conditions (R93): effective state, down reason and transition together. -/
inductive RowCond where
  | nonexistent
  | down (r : DownReason)
  | enabling
  | adopted
  | up
  deriving DecidableEq, Repr

/-- A port row (R93); `admin = true` is ENABLED; `grant` is membership in the ledger's grant set. -/
structure Row where
  admin : Bool
  cls : LicenceClass
  unit : UnitState
  grant : Bool
  cond : RowCond
  deriving DecidableEq, Repr

/-! ## Zoning (chapters 6 and 7) -/

/-- A zoning zone (R107, R108). -/
structure ZoneDef where
  name : Name
  members : List Member
  deriving DecidableEq, Repr

/-- A configuration (R109); its zone list holds zone indices. -/
structure ConfigDef where
  name : Name
  zones : List (Fin 512)
  deriving DecidableEq, Repr

/-- A zoning database (section 6.1). -/
structure ZoneDb where
  zones : Vector (Option ZoneDef) 512
  configs : Vector (Option ConfigDef) 8
  selection : Option (Fin 8)
  access : Access
  deriving DecidableEq, Repr

/-- The two control links (chapter 8). -/
inductive Ctl where
  | ctlA | ctlB
  deriving DecidableEq, Repr

/-- The open transaction with its staging database (section 6.2). -/
structure Transaction where
  owner : Ctl
  opening : Word
  edits : Nat
  db : ZoneDb
  deriving DecidableEq, Repr

/-- Effective content (R129): the selected configuration's zones in list order with their member
lists, `none` with selection NONE, and the default access. -/
structure Content where
  zones : Option (List (Fin 512 × List Member))
  access : Access
  deriving DecidableEq, Repr

/-- Commit phase (section 7.1). -/
inductive CommitPhase where
  | idle | validating | saving | distributing
  deriving DecidableEq, Repr

/-- Saved flag (section 7.1). -/
inductive SavedFlag where
  | yes | no | pending
  deriving DecidableEq, Repr

/-- The zoning engine. -/
structure Zoning where
  defined : ZoneDb
  txn : Option Transaction
  phase : CommitPhase
  requester : Ctl
  changed : Bool
  commitGen : Word
  saved : SavedFlag
  waitSet : Vector Bool 8
  active : Content
  activeGen : Word
  deriving DecidableEq, Repr

/-! ## Roles and holds (chapter 8) -/

/-- Role of a control link (section 8.1). -/
inductive Role where
  | detached | standby | active
  deriving DecidableEq, Repr

/-- Standing of a control link. -/
structure Standing where
  role : Role
  ready : Bool
  deriving DecidableEq, Repr

/-- Settle timer (R152). -/
inductive Settle where
  | stopped
  | running (left : Nat)
  | expired
  deriving DecidableEq, Repr

/-- A link's hold latches (R153). -/
structure Latches where
  freeze : Bool
  override : Bool
  deriving DecidableEq, Repr

/-- The role arbiter; the service link's role SERVICE is fixed. -/
structure Arbiter where
  standing : Vector Standing 2
  holder : Option Ctl
  epoch : Word
  leaseTimer : Option Nat
  settle : Settle
  headless : Bool
  latches : Vector Latches 3
  deriving DecidableEq, Repr

/-! ## Alarms and events (chapter 9) -/

/-- State of an alarm point, numbered as R159 numbers it. -/
inductive PointState where
  | clear | raised | acked | resolved
  deriving DecidableEq, Repr

/-- Severity of an alarm point (section 9.1). -/
inductive Severity where
  | critical | major | minor
  deriving DecidableEq, Repr

/-- The alarm unit: points, relay outputs, cutoff flag, and, after a warm restart until the end of
STARTING, the recorded conditions (R164). -/
structure AlarmUnit where
  points : Vector PointState 57
  major : Bool
  minor : Bool
  audible : Bool
  cutoff : Bool
  recording : Bool
  recorded : Vector Bool 57
  deriving DecidableEq, Repr

/-- Event kinds, in the order of the kind table of section 9.6 (SLOT_STATE is 1, OVERFLOW 17). -/
inductive EventKind where
  | slotState | bayState | trayState | rotorState
  | ledger
  | zoneTempState
  | licenceChange | unitReclaimed
  | portState
  | transactionAborted
  | commitProgress | commitDone | enforcementState
  | roleChange | holdChange
  | alarmChange
  | overflow
  deriving DecidableEq, Repr

/-- Event classes, in the order of section 10.1 (INVENTORY is 1). -/
inductive EventClass where
  | inventory | power | cooling | licence | port | zoning | role | alarm
  deriving DecidableEq, Repr

/-- An event record (section 9.6), its fields as R172 carries them. -/
structure EventRecord where
  seq : Half
  cls : EventClass
  kind : EventKind
  subject : Half
  detailA : Half
  detailB : Half
  epoch : Word
  deriving DecidableEq, Repr

/-- A link's event queue (section 9.7); `attention` is the link's attention line (R168). -/
structure EventQueue where
  records : List EventRecord
  depth : Nat
  mask : ClassMask
  nextSeq : Half
  marker : Bool
  attention : Bool
  deriving DecidableEq, Repr

/-! ## Links, cursors and responses (chapter 10) -/

/-- An entry of a readable table (R176). -/
inductive Entry where
  | slot (e : SlotEntry)
  | cp (e : CpEntry)
  | bay (e : BayEntry) (figure : Int)
  | tray (e : TrayEntry)
  | port (global : Nat) (r : Row)
  | licence (r : LicenceRec)
  | alarm (point : Nat) (severity : Severity) (state : PointState)
  | zone (index : Nat) (z : Option ZoneDef)
  | config (index : Nat) (c : Option ConfigDef) (selected : Bool)
  | active (index : Nat) (members : List Member)
  deriving DecidableEq, Repr

/-- A link's table cursor with its prefetched copy (R177, R178). -/
structure Cursor where
  table : Table
  pos : Int
  dir : Direction
  copy : Option Entry
  count : Word
  deriving DecidableEq, Repr

/-- Statuses, in the order of the status table of section 2.6 (OK is 0, END 22). -/
inductive Status where
  | ok | adjusted | denied | notActive | staleEpoch | busy | frozen | starting | invalid | notFound
  | duplicate | full | inUse | noTransaction | notOwner | heldByPeer | validationFailed
  | wrongChassis | badCheck | notEmpty | linkBusy | unknownRequest | atEnd
  deriving DecidableEq, Repr

/-- Device state (R182). -/
inductive Phase where
  | starting | running
  deriving DecidableEq, Repr

/-- Cause of the last start (R182). -/
inductive StartCause where
  | powerOn | restartRequest | restartLine
  deriving DecidableEq, Repr

/-- The settings held in the CONFIG section (section 10.5), less the auto-power flags and admin
states, which stand in their tables. -/
structure Settings where
  policy : Policy
  graceTime : Nat
  warnPercent : Nat
  scale : Scale
  shedPriority : Vector Slot 8
  autoRestore : Bool
  parkTime : Nat
  leaseTime : Nat
  curveTemp : Vector Int 6
  curveDuty : Vector Nat 6
  hysteresis : Nat
  trayMin : Nat
  warnAt : Int
  critAt : Int
  shutdownAt : Int
  deriving DecidableEq, Repr

/-- Load state of a stored section during STARTING (R181). -/
inductive LoadState where
  | waiting | good | failed
  deriving DecidableEq, Repr

/-- Summary of one database of READ ZONING (R123). -/
structure DbSummary where
  zones : Nat
  members : Nat
  configs : Nat
  selection : Option (Fin 8)
  access : Access
  deriving DecidableEq, Repr

/-- READ ZONING's results (R123, R140). -/
structure ZoningSummary where
  owner : Option Ctl
  opening : Word
  edits : Nat
  defined : DbSummary
  staging : DbSummary
  counts : Vector Word 4
  phase : CommitPhase
  requester : Ctl
  changed : Bool
  commitGen : Word
  saved : SavedFlag
  waitSet : Vector Bool 8
  activeGen : Word
  deriving DecidableEq, Repr

/-- READ LEDGER's results (R33). -/
structure LedgerSummary where
  policy : Policy
  scale : Scale
  warnPercent : Nat
  graceTime : Nat
  autoRestore : Bool
  shedPriority : Vector Slot 8
  readouts : Readouts
  grantCount : Nat
  low : Bool
  headroomLow : Bool
  clamp : Bool
  redundancyLost : Bool
  overcommit : Overcommit
  graceLeft : Nat
  restoreLeft : Nat
  shedSet : List Slot
  deriving DecidableEq, Repr

/-- READ COOLING's results for one zone (R69); the floors in the order of R58's table. -/
structure ZoneSummary where
  tz : Int
  validSensors : Nat
  unknown : Bool
  temp : TempState
  demand : Nat
  target : Nat
  floors : Vector Bool 5
  updateLeft : Nat
  deriving DecidableEq, Repr

/-- READ COOLING's results (R69). -/
structure CoolingSummary where
  zoneL : ZoneSummary
  zoneR : ZoneSummary
  duty : Vector Nat 4
  curveTemp : Vector Int 6
  curveDuty : Vector Nat 6
  hysteresis : Nat
  trayMin : Nat
  warnAt : Int
  critAt : Int
  shutdownAt : Int
  deriving DecidableEq, Repr

/-- READ LICENCE POOL's results (R89). -/
structure PoolSummary where
  capacity : Nat
  used : Nat
  assigned : Nat
  parked : Nat
  free : Nat
  valid : Nat
  expired : Nat
  waiting : Nat
  parkedUnits : Vector Nat 8
  parkLeft : Vector Nat 8
  parkTime : Nat
  minutes : Nat
  deficit : Bool
  expiring : Bool
  claims : Nat
  deriving DecidableEq, Repr

/-- READ ROLES' results (R154). -/
structure RolesSummary where
  epoch : Word
  holder : Option Ctl
  standing : Vector Standing 2
  up : Vector Bool 3
  leaseLeft : Nat
  leaseTime : Nat
  settle : Settle
  headless : Bool
  freeze : Bool
  override : Bool
  latches : Vector Latches 3
  deriving DecidableEq, Repr

/-- READ ALARM SUMMARY's results (R163): counts RAISED, ACKED, RESOLVED of the critical, major and
minor points in that order. -/
structure AlarmSummary where
  major : Bool
  minor : Bool
  audible : Bool
  cutoff : Bool
  counts : Vector (Vector Nat 3) 3
  lowest : Option Nat
  deriving DecidableEq, Repr

/-- READ EVENT QUEUE's results (R171). -/
structure QueueSummary where
  depth : Nat
  count : Nat
  mask : ClassMask
  nextSeq : Half
  marker : Option Half
  depths : Vector Nat 3
  deriving DecidableEq, Repr

/-- GET STATUS' results (R182). -/
structure StatusSummary where
  phase : Phase
  cause : StartCause
  uptime : Nat
  serial : Word
  serialRead : Bool
  epoch : Word
  loadedGood : Vector Bool 3
  dirty : Vector Bool 3
  fault : Vector Bool 3
  writing : Option StoreSection
  discarded : Nat
  settled : Bool
  deriving DecidableEq, Repr

/-- One row of an ENABLE PORTS or DISABLE PORTS response (R100). -/
structure RowReport where
  global : Nat
  cond : RowCond
  deriving DecidableEq, Repr

/-- Results of a response, as each rule names them. -/
inductive Results where
  | none
  /-- STALE_EPOCH, NOT_ACTIVE (R172); DECLARE STANDBY, YIELD ACTIVE, RELEASE ACTIVE -/
  | roles (epoch : Word) (holder : Option Ctl)
  /-- a claim (R144) -/
  | claim (epoch : Word) (holder : Option Ctl) (leaseTime : Nat)
  /-- RENEW (R145) -/
  | renewal (epoch : Word) (leaseTime : Nat)
  /-- VALIDATION_FAILED: detail code 1 EMPTY_ZONE, 2 TOO_LARGE, and index (R172) -/
  | validation (detail index : Nat)
  /-- COMMIT passed (R129) -/
  | committed (gen : Word) (changed : Bool)
  /-- an applied value, an index, a length or a count -/
  | value (v : Int)
  /-- two values, in the order the rule names them -/
  | values (v w : Int)
  /-- an applied fan curve (R66) -/
  | curve (temp : Vector Int 6) (duty : Vector Nat 6)
  /-- applied thresholds (R68) -/
  | thresholds (warn crit shutdown : Int)
  /-- CLEAR STICKY (R32): HEADROOM_LOW and LEDGER_CLAMP after the request -/
  | sticky (headroomLow clamp : Bool)
  /-- SET CURSOR (R177): entry count and change count -/
  | cursor (entries : Nat) (count : Word)
  /-- READ CURSOR (R178): entries with their STALE flags -/
  | entries (es : List (Entry × Bool))
  /-- ENABLE PORTS and DISABLE PORTS (R100, R101) -/
  | rows (rs : List RowReport)
  /-- OPEN TRANSACTION (R112): opening epoch, zones, members, configurations -/
  | opened (epoch : Word) (zones members configs : Nat)
  /-- SET HOLD and RELEASE HOLD (R153): effective value and the three latches of the kind -/
  | hold (effective : Bool) (latches : Vector Bool 3)
  /-- ACKNOWLEDGE ALARM of a named point (R160) -/
  | point (state : PointState)
  /-- FETCH EVENTS (R167): count left and the records -/
  | events (left : Nat) (records : List EventRecord)
  /-- SET EVENT MASK (R169) -/
  | mask (m : ClassMask)
  | status (r : StatusSummary)
  | ledger (r : LedgerSummary)
  | cooling (r : CoolingSummary)
  | pool (r : PoolSummary)
  | zoning (r : ZoningSummary)
  | arbiter (r : RolesSummary)
  | alarms (r : AlarmSummary)
  | queue (r : QueueSummary)
  deriving DecidableEq, Repr

/-- A response frame: tag, status and results (section 10.1). -/
structure Response where
  tag : Byte
  status : Status
  results : Results
  deriving DecidableEq, Repr

/-- A request whose response has not been sent (R174). -/
inductive OutstandingKind where
  | commit | resetLink | restartPart
  deriving DecidableEq, Repr

/-- The one outstanding request of a link (R174). -/
structure Outstanding where
  tag : Byte
  kind : OutstandingKind
  deriving DecidableEq, Repr

/-- A management link (chapter 10): `response` is the last response frame put on it (assumption 2). `fell` is the
model's own: the link has gone DOWN since the last start and has not come UP since, so that it next comes UP
*again* (R168, R175; assumption 40). -/
structure Link where
  up : Bool
  outstanding : Option Outstanding
  cursor : Option Cursor
  discarded : Nat
  response : Option Response
  fell : Bool
  deriving DecidableEq, Repr

/-! ## Store controller (section 10.5) -/

/-- Content of the CONFIG section. -/
structure ConfigImage where
  settings : Settings
  autoPower : Vector Bool 8
  admin : Vector (Vector Bool 48) 8
  deriving DecidableEq, Repr

/-- Content of the ZONING section. -/
structure ZoningImage where
  db : ZoneDb
  gen : Word
  deriving DecidableEq, Repr

/-- The content a running write took when it started. -/
inductive WriteContent where
  | config (c : ConfigImage)
  | licences (t : List LicenceRec)
  | zoning (z : ZoningImage)
  deriving DecidableEq, Repr

/-- The running write (R179); `forCommit`: a ZONING write that started after the commit in flight
entered SAVING (R130). -/
structure Write where
  content : WriteContent
  forCommit : Bool
  deriving DecidableEq, Repr

/-- The store controller with the non-volatile sections; a section that holds nothing is `none`.
The three flags of each kind are those of CONFIG, LICENCES and ZONING. -/
structure Store where
  config : Option ConfigImage
  licences : Option (List LicenceRec)
  zoning : Option ZoningImage
  dirty : Vector Bool 3
  fault : Vector Bool 3
  loaded : Vector LoadState 3
  write : Option Write
  last : Option StoreSection
  deriving DecidableEq, Repr

/-- Device-level state (R180, R181, R182). -/
structure Device where
  phase : Phase
  cause : StartCause
  uptime : Nat
  serial : Word
  serialRead : Bool
  /-- time left to the 5 s limit of STARTING -/
  startLimit : Option Nat
  deriving DecidableEq, Repr

/-- A notice or order handed from one block to another inside a command, taken once the block that
sent it has finished its rule (assumption 4); the headroom notices are R99's pending notices. -/
inductive Task where
  | headroom
  | shed (s : Slot)
  | thermalOff (s : Slot)
  | restore
  deriving DecidableEq, Repr

/-- The state of the part, and the queue of commands waiting to be taken. -/
structure State where
  dev : Device
  settings : Settings
  ctl : Vector PosCtl 18
  slots : Vector SlotEntry 8
  aux : Vector SlotAux 8
  cps : Vector CpEntry 2
  bays : Vector BayEntry 4
  trays : Vector TrayEntry 4
  trayAux : Vector TrayAux 4
  bus : Bus
  ledger : Ledger
  cooling : Cooling
  pool : Pool
  rows : Vector (Vector Row 48) 8
  zoning : Zoning
  arbiter : Arbiter
  alarms : AlarmUnit
  queues : Vector EventQueue 3
  links : Vector Link 3
  counts : Vector Word 11
  store : Store
  agenda : List Task
  pending : List Instr
  deriving DecidableEq, Repr

/-! ## Values at reset -/

/-- The settings' defaults (sections 2.5, 3.9; R86, R151). -/
def Settings.default : Settings where
  policy := .nPlus1
  graceTime := 10
  warnPercent := 10
  scale := .watts
  shedPriority := #v[0, 1, 2, 3, 4, 5, 6, 7]
  autoRestore := true
  parkTime := 600
  leaseTime := 3000
  curveTemp := #v[50, 60, 70, 80, 90, 100]
  curveDuty := #v[30, 30, 45, 60, 80, 100]
  hysteresis := 4
  trayMin := 30
  warnAt := 110
  critAt := 130
  shutdownAt := 150

/-- A position right after a start: taken presence ABSENT, the debounce timer started with the
input's value as candidate (R4). -/
def PosCtl.atStart (input : Bool) : PosCtl where
  input := input
  taken := false
  debounce := some ⟨Config.debounceMs, input⟩
  judged := false
  attempts := 0
  pollTimer := none

/-- An EMPTY port-blade slot (R22, R139), auto-power set by default (R11). -/
def SlotEntry.atStart : SlotEntry where
  state := .empty
  cause := none
  unresponsive := false
  missed := 0
  identity := none
  poll := none
  autoPower := true
  enforcement := .none
  attempt := 0

def SlotAux.atStart : SlotAux where
  line := false
  readyTimer := none
  enabled := fill 48 false
  held := none
  matched := false
  parkTimer := none
  repushTimer := none
  kept := none
  powered := false
  admits := false

def CpEntry.atStart : CpEntry where
  state := .empty
  cause := none
  unresponsive := false
  missed := 0
  identity := none
  poll := none

def BayEntry.atStart : BayEntry where
  state := .absent
  cause := none
  unresponsive := false
  missed := 0
  identity := none
  poll := none

/-- An ABSENT tray driven at the given duty (R71). -/
def TrayEntry.atStart (duty : Nat) : TrayEntry where
  state := .absent
  cause := none
  identity := none
  speeds := none
  failed := fill 3 false
  duty := duty

def TrayAux.atStart : TrayAux where
  unresponsive := false
  missed := 0
  low := fill 3 0
  good := fill 3 0

def Readouts.zero : Readouts where
  bay := fill 4 0
  raw := 0
  available := 0
  cps := 0
  trays := 0
  blades := 0
  grants := 0
  demand := 0
  headroom := 0
  measured := 0
  margin := 0

/-- The ledger after either start (R50). DESIGN CHOICE: its own REDUNDANCY_LOST is false, the parts of demand, the
margin and the readouts 0 and the saturated flag clear until the first computation (assumption 42). -/
def Ledger.atStart : Ledger where
  figure := fill 4 0
  raw := 0
  available := 0
  cps := 0
  trays := 0
  blades := 0
  grants := 0
  demand := 0
  headroom := 0
  measured := 0
  margin := 0
  readouts := Readouts.zero
  saturated := false
  charged := fill 8 false
  overcommit := .closed
  graceTimer := none
  restoreTimer := none
  order := none
  shedSet := fill 8 false
  pass := none
  passEnd := none
  low := false
  headroomLow := false
  clamp := false
  redundancyLost := false

/-- A zone after a start: Tz is t0 of the default curve, its curve demand as given (R71). -/
def ZoneCtl.atStart (demand : Nat) : ZoneCtl where
  tz := 50
  unknown := false
  temp := .normal
  demand := demand
  target := demand
  updateTimer := some Config.updateMs

def Cooling.atStart (demandL demandR : Nat) : Cooling where
  zones := #v[ZoneCtl.atStart demandL, ZoneCtl.atStart demandR]
  slots := fill 8 false
  cps := fill 2 false

/-- The pool after either start (R91). DESIGN CHOICE: until the load of LICENCES the table is empty, the capacity
0 and LICENCE_EXPIRING false (assumption 42). -/
def Pool.atStart : Pool where
  table := []
  capacity := 0
  claims := []
  minuteTimer := some Config.minuteMs
  minutes := 0
  waiting := 0
  deficit := false
  expiring := false

/-- A row after either start (R105). -/
def Row.atStart : Row where
  admin := true
  cls := .nonexistent
  unit := .none
  grant := false
  cond := .nonexistent

/-- An empty database (R124). -/
def ZoneDb.empty : ZoneDb where
  zones := fill 512 none
  configs := fill 8 none
  selection := none
  access := .noAccess

/-- The zoning engine after either start (R124, R139). The commit's requester, changed flag, commit
generation and saved flag, and the defined database, active generation and content until STARTING gives them,
have no stated start value: DESIGN CHOICE, unsafe (assumption 27). -/
def Zoning.atStart : Zoning where
  defined := ZoneDb.empty
  txn := none
  phase := .idle
  requester := .ctlA
  changed := false
  commitGen := 0
  saved := .no
  waitSet := fill 8 false
  active := ⟨none, .noAccess⟩
  activeGen := 0

/-- The arbiter after either start, with its epoch (R155). -/
def Arbiter.atStart (epoch : Word) : Arbiter where
  standing := fill 2 ⟨.detached, false⟩
  holder := none
  epoch := epoch
  leaseTimer := none
  settle := .stopped
  headless := false
  latches := fill 3 ⟨false, false⟩

/-- The alarm unit after a power-on reset (R164). -/
def AlarmUnit.atPowerOn : AlarmUnit where
  points := fill 57 .clear
  major := false
  minor := false
  audible := false
  cutoff := false
  recording := false
  recorded := fill 57 false

def ClassMask.all : ClassMask := ⟨true, true, true, true, true, true, true, true⟩

/-- The service link's default mask: INVENTORY, ROLE and ALARM (R169). -/
def ClassMask.serviceDefault : ClassMask := ⟨true, false, false, false, false, false, true, true⟩

def EventQueue.atStart (depth : Nat) (mask : ClassMask) : EventQueue where
  records := []
  depth := depth
  mask := mask
  nextSeq := 0
  marker := false
  attention := false

/-- The three queues after either start (R170, R171). -/
def startQueues : Vector EventQueue 3 :=
  #v[EventQueue.atStart 112 ClassMask.all, EventQueue.atStart 112 ClassMask.all,
    EventQueue.atStart 32 ClassMask.serviceDefault]

/-- A link after a start, its physical layer reporting as given (R173, R178, R180). -/
def Link.atStart (up : Bool) : Link where
  up := up
  outstanding := none
  cursor := none
  discarded := 0
  response := none
  fell := false

/-- The store right after a start: stored contents kept, no mark, no fault, nothing loaded, no write
and no last section (R179). -/
def Store.atStart (config : Option ConfigImage) (licences : Option (List LicenceRec))
    (zoning : Option ZoningImage) : Store where
  config := config
  licences := licences
  zoning := zoning
  dirty := fill 3 false
  fault := fill 3 false
  loaded := fill 3 .waiting
  write := none
  last := none

def Device.atStart (cause : StartCause) (serial : Option Word) : Device where
  phase := .starting
  cause := cause
  uptime := 0
  serial := serial.getD 0
  serialRead := serial.isSome
  startLimit := some Config.startLimitMs

/-- The part right after its first power-on reset: every output at its power-on value, every state at
its start value, in STARTING; no module fitted, every link DOWN, the identity memory unreadable and
the stored sections blank (R180; assumptions 1 and 3). -/
def State.reset : State where
  dev := Device.atStart .powerOn none
  settings := Settings.default
  ctl := fill 18 (PosCtl.atStart false)
  slots := fill 8 SlotEntry.atStart
  aux := fill 8 SlotAux.atStart
  cps := fill 2 CpEntry.atStart
  bays := fill 4 BayEntry.atStart
  trays := fill 4 (TrayEntry.atStart 100)
  trayAux := fill 4 TrayAux.atStart
  bus := ⟨[], none⟩
  ledger := Ledger.atStart
  cooling := Cooling.atStart 100 100
  pool := Pool.atStart
  rows := fill 8 (fill 48 Row.atStart)
  zoning := Zoning.atStart
  arbiter := Arbiter.atStart 0
  alarms := AlarmUnit.atPowerOn
  queues := startQueues
  links := fill 3 (Link.atStart false)
  counts := fill 11 0
  store := Store.atStart none none none
  agenda := []
  pending := []

end Sys2Proof.Machine
end

