-- ==== Sys2Proof/Machine/Ops.lean ====
section
/-! DEFINITION. The named operations every block uses: reading and replacing one place of a table (with
the table's change count), the event distributor (R165, R166, R168), responses, dirty marks and the
notices blocks hand to one another. -/

namespace Sys2Proof.Machine

/-! ## Indices -/

def LinkId.idx : LinkId → Fin 3
  | .linkA => 0
  | .linkB => 1
  | .service => 2

def Ctl.idx : Ctl → Fin 2
  | .ctlA => 0
  | .ctlB => 1

def Ctl.other : Ctl → Ctl
  | .ctlA => .ctlB
  | .ctlB => .ctlA

/-- The management link of a control link. -/
def Ctl.link : Ctl → LinkId
  | .ctlA => .linkA
  | .ctlB => .linkB

/-- The control link a management link is, if it is one. -/
def ctlOfLink : LinkId → Option Ctl
  | .linkA => some .ctlA
  | .linkB => some .ctlB
  | .service => none

def Cp.idx : Cp → Fin 2
  | .cpA => 0
  | .cpB => 1

def AirZone.idx : AirZone → Fin 2
  | .zoneL => 0
  | .zoneR => 1

def Table.idx : Table → Fin 11
  | .slot => 0
  | .bay => 1
  | .tray => 2
  | .port => 3
  | .licence => 4
  | .alarm => 5
  | .zoneDefined => 6
  | .zoneStaged => 7
  | .configDefined => 8
  | .configStaged => 9
  | .zoneActive => 10

def StoreSection.idx : StoreSection → Fin 3
  | .config => 0
  | .licences => 1
  | .zoning => 2

/-- Slots, then CP-A and CP-B, then bays, then trays. -/
def Position.idx : Position → Fin 18
  | .slot s => ⟨s.val, by omega⟩
  | .cp .cpA => 8
  | .cp .cpB => 9
  | .bay b => ⟨10 + b.val, by omega⟩
  | .tray t => ⟨14 + t.val, by omega⟩

def allSlots : List Slot := allFin 8
def allBays : List Bay := allFin 4
def allTrays : List Tray := allFin 4
def allCps : List Cp := [.cpA, .cpB]
def allZones : List AirZone := [.zoneL, .zoneR]
def allLinks : List LinkId := [.linkA, .linkB, .service]

def allPositions : List Position :=
  allSlots.map .slot ++ allCps.map .cp ++ allBays.map .bay ++ allTrays.map .tray

/-- The 48 rows of a slot, ascending. -/
def slotPorts (s : Slot) : List Port := (allFin 48).map (⟨s, ·⟩)

/-- The 384 rows, in ascending global order. -/
def allPorts : List Port := allSlots.flatMap slotPorts

/-- Global port number (R93). -/
def Port.global (p : Port) : Nat := p.slot.val * 48 + p.idx.val

/-! ## Change counts (R176) -/

/-- Raises a table's change count by one, wrapping. -/
def State.bump (t : Table) (s : State) : State :=
  { s with counts := put s.counts (Table.idx t) (look s.counts (Table.idx t) + 1) }

/-! ## Places of the tables -/

def State.slotAt (s : State) (i : Slot) : SlotEntry := look s.slots i
def State.auxAt (s : State) (i : Slot) : SlotAux := look s.aux i
def State.cpAt (s : State) (c : Cp) : CpEntry := look s.cps (Cp.idx c)
def State.bayAt (s : State) (b : Bay) : BayEntry := look s.bays b
def State.trayAt (s : State) (t : Tray) : TrayEntry := look s.trays t
def State.trayAuxAt (s : State) (t : Tray) : TrayAux := look s.trayAux t
def State.ctlAt (s : State) (p : Position) : PosCtl := look s.ctl (Position.idx p)
def State.rowAt (s : State) (p : Port) : Row := look (look s.rows p.slot) p.idx
def State.zoneAt (s : State) (z : AirZone) : ZoneCtl := look s.cooling.zones (AirZone.idx z)
def State.linkAt (s : State) (l : LinkId) : Link := look s.links (LinkId.idx l)
def State.queueAt (s : State) (l : LinkId) : EventQueue := look s.queues (LinkId.idx l)
def State.standingOf (s : State) (c : Ctl) : Standing := look s.arbiter.standing (Ctl.idx c)
def State.latchesOf (s : State) (l : LinkId) : Latches := look s.arbiter.latches (LinkId.idx l)
def State.countOf (s : State) (t : Table) : Word := look s.counts (Table.idx t)

/-- Replaces a port-blade slot's entry; the SLOT table's count rises when the entry changes. -/
def State.setSlot (i : Slot) (e : SlotEntry) (s : State) : State :=
  if e = s.slotAt i then s else State.bump .slot { s with slots := put s.slots i e }

def State.setCp (c : Cp) (e : CpEntry) (s : State) : State :=
  if e = s.cpAt c then s else State.bump .slot { s with cps := put s.cps (Cp.idx c) e }

def State.setBay (b : Bay) (e : BayEntry) (s : State) : State :=
  if e = s.bayAt b then s else State.bump .bay { s with bays := put s.bays b e }

def State.setTray (t : Tray) (e : TrayEntry) (s : State) : State :=
  if e = s.trayAt t then s else State.bump .tray { s with trays := put s.trays t e }

/-- Replaces a port row; the PORT table's count rises when the row changes, by one for each row replaced:
DESIGN CHOICE, R176 gives no step for an event that changes several entries (assumption 35). -/
def State.setRow (p : Port) (r : Row) (s : State) : State :=
  if r = s.rowAt p then s
  else State.bump .port { s with rows := put s.rows p.slot (put (look s.rows p.slot) p.idx r) }

def State.setAux (i : Slot) (a : SlotAux) (s : State) : State := { s with aux := put s.aux i a }
def State.setTrayAux (t : Tray) (a : TrayAux) (s : State) : State :=
  { s with trayAux := put s.trayAux t a }
def State.setCtl (p : Position) (c : PosCtl) (s : State) : State :=
  { s with ctl := put s.ctl (Position.idx p) c }
def State.setZone (z : AirZone) (c : ZoneCtl) (s : State) : State :=
  { s with cooling := { s.cooling with zones := put s.cooling.zones (AirZone.idx z) c } }
def State.setLink (l : LinkId) (k : Link) (s : State) : State :=
  { s with links := put s.links (LinkId.idx l) k }
def State.setQueue (l : LinkId) (q : EventQueue) (s : State) : State :=
  { s with queues := put s.queues (LinkId.idx l) q }
def State.setStanding (c : Ctl) (x : Standing) (s : State) : State :=
  { s with arbiter := { s.arbiter with standing := put s.arbiter.standing (Ctl.idx c) x } }
def State.setLatches (l : LinkId) (x : Latches) (s : State) : State :=
  { s with arbiter := { s.arbiter with latches := put s.arbiter.latches (LinkId.idx l) x } }

/-! ## Numbers in event fields (R172) -/

/-- An unsigned quantity in a two-byte field: above 65535 it is carried as 65535. -/
def u16 (n : Nat) : Half := BitVec.ofNat 16 (min n 65535)

/-- A signed quantity in two's complement. -/
def s16 (n : Int) : Half := BitVec.ofInt 16 n

/-! ## Event distributor (R165, R166, R168) -/

/-- Class of an event kind (table of section 9.6); an OVERFLOW record takes the class of the first
record it stands for, and none is ever reported. -/
def EventKind.cls : EventKind → EventClass
  | .slotState | .bayState | .trayState | .rotorState => .inventory
  | .ledger => .power
  | .zoneTempState => .cooling
  | .licenceChange | .unitReclaimed => .licence
  | .portState => .port
  | .transactionAborted | .commitProgress | .commitDone | .enforcementState => .zoning
  | .roleChange | .holdChange => .role
  | .alarmChange | .overflow => .alarm

def ClassMask.holds (m : ClassMask) : EventClass → Bool
  | .inventory => m.inventory
  | .power => m.power
  | .cooling => m.cooling
  | .licence => m.licence
  | .port => m.port
  | .zoning => m.zoning
  | .role => m.role
  | .alarm => m.alarm

/-- The list with its last element changed. -/
def mapLast {α : Type} (f : α → α) : List α → List α
  | [] => []
  | [x] => [f x]
  | x :: y :: xs => x :: mapLast f (y :: xs)

/-- One more record counted into an overflow marker (R166): lost count, saturating, and the sequence
number and epoch of the most recent record. -/
def countIntoMarker (seq : Half) (epoch : Word) (m : EventRecord) : EventRecord :=
  { m with
    detailA := if m.detailA = 65535 then m.detailA else m.detailA + 1
    detailB := seq
    epoch := epoch }

/-- An accepted report placed in a queue (R165, R166): it takes the next sequence number, and is
appended, becomes the overflow marker, or is counted into the marker. -/
def EventQueue.place (q : EventQueue) (kind : EventKind) (subject a b : Half) (epoch : Word) :
    EventQueue :=
  let next := q.nextSeq + 1
  if q.marker then
    { q with records := mapLast (countIntoMarker q.nextSeq epoch) q.records, nextSeq := next }
  else if q.records.length + 1 < q.depth then
    { q with
      records := q.records ++ [⟨q.nextSeq, EventKind.cls kind, kind, subject, a, b, epoch⟩]
      nextSeq := next
      attention := true }
  else
    { q with
      records := q.records ++ [⟨q.nextSeq, EventKind.cls kind, .overflow, 0, 1, q.nextSeq, epoch⟩]
      nextSeq := next
      marker := true
      attention := true }

/-- What one link does with a report (R165): ALARM passes every mask, other classes pass when the
mask holds them, and a discarded report takes no number. -/
def EventQueue.offer (q : EventQueue) (kind : EventKind) (subject a b : Half) (epoch : Word) :
    EventQueue :=
  if EventKind.cls kind = .alarm ∨ ClassMask.holds q.mask (EventKind.cls kind) = true then
    EventQueue.place q kind subject a b epoch
  else q

/-- A report offered to each of the three links in turn, with the epoch current now (R165); a DOWN link queues
it like any other (R168, R171; assumption 40). -/
def State.report (kind : EventKind) (subject a b : Half) (s : State) : State :=
  { s with queues := s.queues.map fun q => EventQueue.offer q kind subject a b s.arbiter.epoch }

/-! ## Responses -/

/-- The response to the frame just taken on a link. -/
def State.respond (l : LinkId) (tag : Byte) (st : Status) (r : Results) (s : State) : State :=
  State.setLink l { s.linkAt l with response := some ⟨tag, st, r⟩ } s

/-! ## Store and notices -/

/-- Marks a stored section dirty (R179). -/
def State.markDirty (x : StoreSection) (s : State) : State :=
  { s with store := { s.store with dirty := put s.store.dirty (StoreSection.idx x) true } }

/-- CONFIG is marked dirty when a setting takes a value different from the one held. -/
def State.changeSettings (f : Settings) (s : State) : State :=
  if f = s.settings then s else State.markDirty .config { s with settings := f }

/-- Hands a notice or order on; a pending headroom notice is not added twice (R99). -/
def State.hand (t : Task) (s : State) : State :=
  if t = .headroom ∧ .headroom ∈ s.agenda then s else { s with agenda := s.agenda ++ [t] }

/-- The device is in STARTING. -/
def State.starting (s : State) : Bool := s.dev.phase = .starting

/-- A state as the outcome of a command. -/
def done (s : State) : Host.Outcome State Fault Refusal := .next s

end Sys2Proof.Machine
end

