-- ==== Sys2Proof/Machine/Flags.lean ====
section
/-! DEFINITION. The alarm unit (chapter 9): the numbers and severities of the points, conditions handed
by the blocks, the latching state machine, and the relay outputs. -/

namespace Sys2Proof.Machine

/-! ## The 57 points (section 9.1) -/

def psuFail (b : Bay) : Fin 57 := ⟨b.val, by omega⟩
def psuDegraded (b : Bay) : Fin 57 := ⟨4 + b.val, by omega⟩
def redundancyLostPoint : Fin 57 := 8
def overcommitPoint : Fin 57 := 9
def shedAnyPoint : Fin 57 := 10
/-- FAN_ROTOR_r of rotor `k` (0 to 2) of a tray: r = tray index × 3 + k + 1. -/
def fanRotor (t : Tray) (k : Fin 3) : Fin 57 := ⟨11 + t.val * 3 + k.val, by omega⟩
def fanTray (t : Tray) : Fin 57 := ⟨23 + t.val, by omega⟩
def zoneWarn (z : AirZone) : Fin 57 := ⟨27 + (AirZone.idx z).val, by omega⟩
def zoneCrit (z : AirZone) : Fin 57 := ⟨29 + (AirZone.idx z).val, by omega⟩
def zoneShutdown (z : AirZone) : Fin 57 := ⟨31 + (AirZone.idx z).val, by omega⟩
def sensorUnknown (z : AirZone) : Fin 57 := ⟨33 + (AirZone.idx z).val, by omega⟩
def slotFault (s : Slot) : Fin 57 := ⟨35 + s.val, by omega⟩
def cpFault (c : Cp) : Fin 57 := ⟨43 + (Cp.idx c).val, by omega⟩
def enforceStale (s : Slot) : Fin 57 := ⟨45 + s.val, by omega⟩
def licenceDeficitPoint : Fin 57 := 53
def licenceExpiringPoint : Fin 57 := 54
def storeFaultPoint : Fin 57 := 55
def headlessPoint : Fin 57 := 56

/-- Severity of a point (table of section 9.1). -/
def severity (n : Fin 57) : Severity :=
  if n.val = 31 ∨ n.val = 32 then .critical
  else if (4 ≤ n.val ∧ n.val ≤ 7) ∨ (11 ≤ n.val ∧ n.val ≤ 22) ∨ n.val = 27 ∨ n.val = 28 ∨
      n.val = 33 ∨ n.val = 34 ∨ n.val = 54 ∨ n.val = 55 then .minor
  else .major

/-! ## Relay outputs (R161, R162) -/

/-- A point that holds its contact: RAISED or ACKED. -/
def PointState.holds : PointState → Bool
  | .raised | .acked => true
  | .clear | .resolved => false

/-- Some critical or major point satisfies `f`. -/
def AlarmUnit.someMajor (u : AlarmUnit) (f : PointState → Bool) : Bool :=
  (allFin 57).any fun n => severity n ≠ .minor && f (look u.points n)

/-- Some minor point satisfies `f`. -/
def AlarmUnit.someMinor (u : AlarmUnit) (f : PointState → Bool) : Bool :=
  (allFin 57).any fun n => severity n = .minor && f (look u.points n)

/-- The three outputs derived from the points and the cutoff flag. -/
def AlarmUnit.derive (u : AlarmUnit) : AlarmUnit :=
  { u with
    major := AlarmUnit.someMajor u PointState.holds
    minor := AlarmUnit.someMinor u PointState.holds
    audible := AlarmUnit.someMajor u (· = .raised) && !u.cutoff }

/-! ## The latching state machine (R158, R159) -/

/-- Number of a point state in an ALARM_CHANGE record (R159). -/
def pointCode : PointState → Half
  | .clear => 0
  | .raised => 1
  | .acked => 2
  | .resolved => 3

/-- The point takes a new state: a critical or major point entering RAISED clears the cutoff flag
(R162), the outputs are derived, and ALARM_CHANGE is queued with its cause (R159). -/
def State.movePoint (n : Fin 57) (st : PointState) (cause : Half) (s : State) : State :=
  let cutoff := s.alarms.cutoff && !(st = .raised && severity n ≠ .minor)
  let unit := AlarmUnit.derive { s.alarms with points := put s.alarms.points n st, cutoff := cutoff }
  State.report .alarmChange (u16 n.val) (pointCode st) cause
    (State.bump .alarm { s with alarms := unit })

/-- The state a point takes when its condition turns to the given value; a value that agrees with the
point's present condition leaves it (R158, R159). -/
def PointState.onCondition : PointState → Bool → PointState
  | .clear, true => .raised
  | .resolved, true => .raised
  | .raised, false => .resolved
  | .acked, false => .clear
  | st, _ => st

/-- The state an acknowledged point takes (R159). -/
def PointState.onAck : PointState → PointState
  | .raised => .acked
  | .resolved => .clear
  | st => st

/-- A condition value taken by the unit at its point (R158). -/
def State.applyCondition (n : Fin 57) (v : Bool) (s : State) : State :=
  let old := look s.alarms.points n
  let new := PointState.onCondition old v
  if new = old then s else State.movePoint n new (if v then 1 else 2) s

/-- A condition handed by a block: recorded while the unit is recording after a warm restart (R164),
taken at once otherwise. -/
def State.condition (n : Fin 57) (v : Bool) (s : State) : State :=
  if s.alarms.recording then
    { s with alarms := { s.alarms with recorded := put s.alarms.recorded n v } }
  else State.applyCondition n v s

/-- An acknowledgement of a point, with the cause that names the link (R159, R160). -/
def State.acknowledge (cause : Half) (n : Fin 57) (s : State) : State :=
  let old := look s.alarms.points n
  let new := PointState.onAck old
  if new = old then s else State.movePoint n new cause s

/-- The end of STARTING at the unit (R164): after a warm restart every recorded condition is taken, in
ascending point number. -/
def State.applyRecorded (s : State) : State :=
  if s.alarms.recording then
    (allFin 57).foldl (fun t n => State.applyCondition n (look s.alarms.recorded n) t)
      { s with alarms := { s.alarms with recording := false } }
  else s

/-- STORE_FAULT: some section's fault flag is set (R179). -/
def State.handStoreFault (s : State) : State :=
  State.condition storeFaultPoint (anySet s.store.fault) s

end Sys2Proof.Machine
end

