-- ==== Sys2Proof/Machine/Bus.lean ====
section
/-! DEFINITION. The module bus scheduler (R1 to R3) and the enforcement image a push carries (R126). -/

namespace Sys2Proof.Machine

/-! ## Enforcement image (R126) -/

/-- NODE members of a list, in order. -/
def nodesOf (ms : List Member) : List (BitVec 64) :=
  ms.filterMap fun m => match m with
    | .node n => some n
    | .port _ => none

/-- PORT members of a list that lie on a slot, as local port numbers in order. -/
def localPortsOf (sl : Slot) (ms : List Member) : List (Fin 48) :=
  ms.filterMap fun m => match m with
    | .node _ => none
    | .port p => if p.slot = sl then some p.idx else none

/-- The zones whose content a slot's image counts. -/
def Content.zoneList (c : Content) : List (Fin 512 × List Member) := c.zones.getD []

/-- Image size of a slot over a content: zones, NODE members, PORT members on the slot. -/
def imageSize (c : Content) (sl : Slot) : Nat :=
  ((Content.zoneList c).map fun z => 1 + (nodesOf z.2).length + (localPortsOf sl z.2).length).sum

/-- Access mode of an image. -/
def Content.mode (c : Content) : AccessMode :=
  if c.zones.isSome then .zoned
  else match c.access with
    | .allAccess => .allAccess
    | .noAccess => .noAccess

/-- The image pushed to a slot: the content and generation in force now. -/
def State.image (s : State) (sl : Slot) : Image where
  gen := s.zoning.activeGen
  mode := Content.mode s.zoning.active
  zones := (Content.zoneList s.zoning.active).map fun z =>
    ⟨z.1.val, nodesOf z.2, localPortsOf sl z.2⟩

/-! ## Scheduler -/

/-- Class of a transaction (table of section 1.1). -/
def Txn.cls : Txn → Nat
  | .powerEnable _ | .portCommand _ _ => 1
  | .push _ => 2
  | .identity _ => 3
  | .poll _ => 4

/-- Reply timeout of a transaction. -/
def Txn.timeout : Txn → Nat
  | .push _ => Config.pushMs
  | _ => Config.replyMs

/-- The position a transaction is addressed to. -/
def Txn.position : Txn → Position
  | .powerEnable s => .slot s
  | .portCommand p _ => .slot p.slot
  | .push s => .slot s
  | .identity pos => pos
  | .poll pos => pos

/-- Same addressed object and kind (R2): a port has one port command, whichever it is. -/
def Txn.sameObject : Txn → Txn → Bool
  | .portCommand p _, .portCommand q _ => p = q
  | t, u => t = u

/-- The waiting transaction that starts next (R1): the lowest class, and in it the one queued first. -/
def nextTxn : List Txn → Option Txn
  | [] => none
  | t :: ts =>
    match nextTxn ts with
    | none => some t
    | some u => if Txn.cls t ≤ Txn.cls u then some t else some u

/-- Starts a transaction; the content of a push is fixed now (R2). -/
def State.startTxn (t : Txn) (s : State) : State :=
  let image := match t with
    | .push sl => some (s.image sl)
    | _ => none
  { s with bus := { s.bus with running := some ⟨t, Txn.timeout t, image, false⟩ } }

/-- A free bus starts the next waiting transaction, if there is one (R1). -/
def State.kickBus (s : State) : State :=
  if s.bus.running.isSome then s
  else
    match nextTxn s.bus.waiting with
    | none => s
    | some t => State.startTxn t { s with bus := { s.bus with waiting := s.bus.waiting.erase t } }

/-- The queue with a transaction joined (R2): a waiting one of the same object and kind keeps its
place, a port command taking over the content. -/
def joinQueue (t : Txn) (q : List Txn) : List Txn :=
  if q.any (Txn.sameObject t) then q.map fun u => if Txn.sameObject t u then t else u
  else q ++ [t]

/-- A transaction asked of the scheduler: it starts at once on a free bus and waits otherwise. -/
def State.enqueue (t : Txn) (s : State) : State :=
  State.kickBus { s with bus := { s.bus with waiting := joinQueue t s.bus.waiting } }

/-- Withdraws the transactions `f` selects (R3): waiting ones leave the queue, and the outcome of a
running one is discarded when it ends. -/
def State.withdraw (f : Txn → Bool) (s : State) : State :=
  { s with bus :=
    { waiting := s.bus.waiting.filter fun t => !f t
      running := s.bus.running.map fun r =>
        if f r.txn then { r with withdrawn := true } else r } }

/-- Loss of presence withdraws every transaction to the position (R3). -/
def State.withdrawAll (pos : Position) (s : State) : State :=
  State.withdraw (fun t => Txn.position t = pos) s

/-- A slot leaving POWERING or POWERED withdraws its power-enable command, port commands and push
(R3). DESIGN CHOICE: an identity read or poll that runs to the slot is no more withdrawn than a waiting one, and
its outcome is taken as usual (assumption 37). -/
def State.withdrawPower (sl : Slot) (s : State) : State :=
  State.withdraw
    (fun t => match t with
      | .powerEnable i => i = sl
      | .portCommand p _ => p.slot = sl
      | .push i => i = sl
      | _ => false) s

/-- The end of the running transaction (R1): the bus is freed and the next one starts. -/
def State.freeBus (s : State) : State :=
  State.kickBus { s with bus := { s.bus with running := none } }

end Sys2Proof.Machine
end

