-- ==== Sys2Proof/Machine/Operands.lean ====
section
/-! DEFINITION. Operands read as the manual's values: numbers of slots, bays, trays, ports and indices,
clamping into stated ranges, names, members, curves, identity records, and the check words and byte
layouts of frames and records. -/

namespace Sys2Proof.Machine

/-! ## Numbers -/

/-- Slot 1 to 8. -/
def slotOfNumber (n : Nat) : Option Slot :=
  if h : 1 ≤ n ∧ n ≤ 8 then some ⟨n - 1, by omega⟩ else none

/-- Bay or tray 1 to 4. -/
def quarterOfNumber (n : Nat) : Option (Fin 4) :=
  if h : 1 ≤ n ∧ n ≤ 4 then some ⟨n - 1, by omega⟩ else none

/-- Global port 0 to 383 (R93). -/
def portOfGlobal (n : Nat) : Option Port :=
  if h : n < 384 then some ⟨⟨n / 48, by omega⟩, ⟨n % 48, by omega⟩⟩ else none

/-- Zone index 0 to 511. -/
def zoneIndex (n : Nat) : Option (Fin 512) := if h : n < 512 then some ⟨n, h⟩ else none

/-- Configuration index 0 to 7. -/
def configIndex (n : Nat) : Option (Fin 8) := if h : n < 8 then some ⟨n, h⟩ else none

/-- The position a REQUALIFY names, if it is one (R7). -/
def positionOf : PositionName → Option Position
  | .slotNumber n => (slotOfNumber n).map .slot
  | .cp c => some (.cp c)
  | .bayNumber n => (quarterOfNumber n).map .bay
  | .trayNumber n => (quarterOfNumber n).map .tray
  | .other => none

/-- The nearest value in a stated range. -/
def clampInt (lo hi x : Int) : Int := max lo (min hi x)

/-- The nearest value in a stated range of unsigned numbers. -/
def clampNat (lo hi x : Nat) : Nat := max lo (min hi x)

/-- OK when the applied value is the one carried, ADJUSTED otherwise (section 2.6). -/
def appliedStatus (adjusted : Bool) : Status := if adjusted then .adjusted else .ok

/-! ## Names and members (R107, R113) -/

/-- A to Z, a to z, 0 to 9, underscore and hyphen. -/
def nameByteOk (b : Byte) : Bool :=
  (0x41#8 ≤ b && b ≤ 0x5A#8) || (0x61#8 ≤ b && b ≤ 0x7A#8) || (0x30#8 ≤ b && b ≤ 0x39#8) ||
    b = 0x5F#8 || b = 0x2D#8

/-- 1 to 32 allowed characters. -/
def nameOk (n : Name) : Bool := 1 ≤ n.length && n.length ≤ 32 && n.all nameByteOk

/-- A member with its kind and value allowed: PORT 0 to 383, NODE other than 0. -/
def memberOf : RawMember → Option Member
  | .port n => (portOfGlobal n).map .port
  | .node n => if n = 0 then none else some (.node n)
  | .other => none

/-! ## Shed priority, fan curve, thresholds -/

/-- A permutation of slots 1 to 8 (R37). -/
def shedPriorityOf (l : List Nat) : Option (Vector Slot 8) :=
  match l.mapM slotOfNumber with
  | some [a, b, c, d, e, f, g, h] =>
    if [a, b, c, d, e, f, g, h].Nodup then some #v[a, b, c, d, e, f, g, h] else none
  | _ => none

/-- Each temperature greater than the one before it. -/
def strictlyAscending : List Int → Bool
  | x :: y :: l => x < y && strictlyAscending (y :: l)
  | _ => true

/-- Each duty at least the one before it. -/
def notDecreasing : List Nat → Bool
  | x :: y :: l => x ≤ y && notDecreasing (y :: l)
  | _ => true

/-- A temperature clamped into −80 to +250. -/
def clampTemp (t : Int) : Int := clampInt (-80) 250 t

/-- A duty clamped into 0 to 100. -/
def clampDuty (d : Int) : Nat := (clampInt 0 100 d).toNat

/-- Whether clamping a breakpoint changes it. -/
def breakpointAdjusted (b : Breakpoint) : Bool :=
  clampTemp b.temp ≠ b.temp || (clampDuty b.duty : Int) ≠ b.duty

/-- The six clamped breakpoints, when they pass the structure check of R66. -/
def curveOf (l : List Breakpoint) : Option (Vector Int 6 × Vector Nat 6) :=
  match l with
  | [a, b, c, d, e, f] =>
    let ts := #v[clampTemp a.temp, clampTemp b.temp, clampTemp c.temp, clampTemp d.temp,
      clampTemp e.temp, clampTemp f.temp]
    let ds := #v[clampDuty a.duty, clampDuty b.duty, clampDuty c.duty, clampDuty d.duty,
      clampDuty e.duty, clampDuty f.duty]
    if strictlyAscending ts.toList && notDecreasing ds.toList then some (ts, ds) else none
  | _ => none

/-! ## Identity records (R5) -/

/-- The outcome of the three tests of R5. -/
inductive Judgement (α : Type) where
  | checkFailure
  | misfit
  | qualified (x : α)
  deriving DecidableEq, Repr

/-- The 16-bit sum, modulo 65536, of every word of the record. -/
def wordSum (ws : List Half) : Half := ws.foldl (· + ·) 0

/-- A 32-bit number from its two words, most significant first. -/
def serialOf (hi lo : Half) : Word := hi ++ lo

/-- Whether a field lies in its allowed range. -/
def inRange (lo hi : Nat) (w : Half) : Bool := lo ≤ w.toNat && w.toNat ≤ hi

/-- The fields of a PORT_BLADE record, in range (table of section 1.3). DESIGN CHOICE, here and for the three
kinds below: a record with the right check and kind but another number of words than its kind's has no
fields, so it is a misfit (assumption 31). -/
def bladeFields : List Half → Option BladeIdentity
  | [_, hi, lo, pc, bc, bp, al, cap, _] =>
    if (pc = 16 || pc = 32 || pc = 48) && inRange 0 pc.toNat bc && inRange 50 600 bp &&
        inRange 0 40 al && inRange 256 16384 cap then
      some ⟨serialOf hi lo, pc.toNat, bc.toNat, bp.toNat, al.toNat, cap.toNat⟩
    else none
  | _ => none

/-- The field of a CONTROL_PROCESSOR record; another number of words is a misfit (assumption 31). -/
def cpFields : List Half → Option CpIdentity
  | [_, hi, lo, p, _] => if inRange 50 300 p then some ⟨serialOf hi lo, p.toNat⟩ else none
  | _ => none

/-- The fields of a POWER_SUPPLY record; another number of words is a misfit (assumption 31). -/
def supplyFields : List Half → Option SupplyIdentity
  | [_, hi, lo, h, l, _] =>
    if inRange 500 6000 h && inRange 500 6000 l then
      some ⟨serialOf hi lo, h.toNat, l.toNat⟩
    else none
  | _ => none

/-- The fields of a FAN_TRAY record; another number of words is a misfit (assumption 31). -/
def trayFields : List Half → Option TrayIdentity
  | [_, hi, lo, r, p, _] =>
    if inRange 1000 20000 r && inRange 50 1000 p then
      some ⟨serialOf hi lo, r.toNat, p.toNat⟩
    else none
  | _ => none

/-- The tests of R5 in order: check, kind, values. -/
def judgeIdentity {α : Type} (kind : ModuleKind) (fields : List Half → Option α)
    (r : IdentityReply) : Judgement α :=
  if wordSum r.words ≠ 0 then .checkFailure
  else if r.kind ≠ some kind then .misfit
  else
    match fields r.words with
    | some x => .qualified x
    | none => .misfit

/-- An optional sensor field outside −80 to +250 is taken as absent (R9). -/
def sensorOf : Option Int → Option Int
  | some t => if -80 ≤ t ∧ t ≤ 250 then some t else none
  | none => none

/-! ## Check words (R73, R173) -/

/-- The bits of a byte, most significant first. -/
def bitsOf (b : Byte) : List Bool :=
  [b.getLsbD 7, b.getLsbD 6, b.getLsbD 5, b.getLsbD 4, b.getLsbD 3, b.getLsbD 2, b.getLsbD 1,
    b.getLsbD 0]

def be16 (x : Half) : List Byte := [x.extractLsb' 8 8, x.extractLsb' 0 8]
def be32 (x : Word) : List Byte :=
  [x.extractLsb' 24 8, x.extractLsb' 16 8, x.extractLsb' 8 8, x.extractLsb' 0 8]

/-- One bit of a CRC computation: shift left, and exclusive-OR the generator when the register's top
bit and the incoming bit differ. -/
def crcBit {w : Nat} (gen : BitVec w) (r : BitVec w) (bit : Bool) : BitVec w :=
  if r.msb = bit then r <<< 1 else (r <<< 1) ^^^ gen

/-- The 32-bit check of licences and stored sections (R73). -/
def crc32 (bytes : List Byte) : Word :=
  ~~~ ((bytes.flatMap bitsOf).foldl (crcBit 0x04C11DB7#32) 0xFFFFFFFF#32)

/-- The 16-bit check of frames (R173). -/
def crc16 (bytes : List Byte) : Half :=
  (bytes.flatMap bitsOf).foldl (crcBit 0x1021#16) 0xFFFF#16

/-- The 15-byte message of a licence's check word (R73). -/
def licenceMessage (f : LicenceFields) : List Byte :=
  be32 f.serial ++ [f.kind] ++ be16 f.units ++ be32 f.minutes ++ be32 f.bound

/-- The check word of a licence (R73). -/
def licenceCheck (f : LicenceFields) : Word := crc32 (licenceMessage f)

/-! ## Byte layouts (section 10.1) -/

/-- The tests of R173 on the bytes of a request frame: length, then check. -/
def frameGood (bytes : List Byte) : Bool :=
  match bytes with
  | hi :: lo :: rest =>
    let len := (hi ++ lo : Half).toNat
    8 ≤ len && len ≤ 256 && len = rest.length &&
      be16 (crc16 (bytes.take (bytes.length - 2))) = bytes.drop (bytes.length - 2)
  | _ => false

/-- A request frame laid out (section 10.1). -/
def requestFrame (tag code : Byte) (epoch : Word) (operands : List Byte) : List Byte :=
  let body := be16 (BitVec.ofNat 16 (operands.length + 8)) ++ [tag, code] ++ be32 epoch ++ operands
  body ++ be16 (crc16 body)

/-- Number of a status on the link (section 10.1). -/
def statusCode : Status → Byte
  | .ok => 0
  | .adjusted => 1
  | .denied => 2
  | .notActive => 3
  | .staleEpoch => 4
  | .busy => 5
  | .frozen => 6
  | .starting => 7
  | .invalid => 8
  | .notFound => 9
  | .duplicate => 10
  | .full => 11
  | .inUse => 12
  | .noTransaction => 13
  | .notOwner => 14
  | .heldByPeer => 15
  | .validationFailed => 16
  | .wrongChassis => 17
  | .badCheck => 18
  | .notEmpty => 19
  | .linkBusy => 20
  | .unknownRequest => 21
  | .atEnd => 22

/-- Number of an event class (section 10.1). -/
def classCode : EventClass → Byte
  | .inventory => 1
  | .power => 2
  | .cooling => 3
  | .licence => 4
  | .port => 5
  | .zoning => 6
  | .role => 7
  | .alarm => 8

/-- Number of an event kind (section 10.1). -/
def kindCode : EventKind → Byte
  | .slotState => 1
  | .bayState => 2
  | .trayState => 3
  | .rotorState => 4
  | .ledger => 5
  | .zoneTempState => 6
  | .licenceChange => 7
  | .unitReclaimed => 8
  | .portState => 9
  | .transactionAborted => 10
  | .commitProgress => 11
  | .commitDone => 12
  | .enforcementState => 13
  | .roleChange => 14
  | .holdChange => 15
  | .alarmChange => 16
  | .overflow => 17

/-- The 14 bytes of an event record (section 10.1). -/
def recordBytes (r : EventRecord) : List Byte :=
  be16 r.seq ++ [classCode r.cls, kindCode r.kind] ++ be16 r.subject ++ be16 r.detailA ++
    be16 r.detailB ++ be32 r.epoch

/-- The holder's byte in a refusal (R172). -/
def holderCode : Option Ctl → Byte
  | none => 0
  | some .ctlA => 1
  | some .ctlB => 2

/-- The bytes of the results whose layout the manual gives: epoch and holder, the validation detail
(R172), and FETCH EVENTS (R167). -/
def resultBytes : Results → Option (List Byte)
  | .none => some []
  | .roles e h => some (be32 e ++ [holderCode h])
  | .validation d i => some ([BitVec.ofNat 8 d] ++ be16 (BitVec.ofNat 16 i))
  | .events left rs =>
    some ([BitVec.ofNat 8 left, BitVec.ofNat 8 rs.length] ++ rs.flatMap recordBytes)
  | _ => none

/-- A response frame laid out over its results' bytes (section 10.1). -/
def responseFrame (tag : Byte) (st : Status) (results : List Byte) : List Byte :=
  let body := be16 (BitVec.ofNat 16 (results.length + 4)) ++ [tag, statusCode st] ++ results
  body ++ be16 (crc16 body)

end Sys2Proof.Machine
end

