-- ==== Sys2Proof/Machine/Ledger.lean ====
section
/-! DEFINITION. The power ledger (chapter 2): supply side, demand, headroom, readouts and flags,
admission, overcommit, the shed set and the restore pass. Orders and notices to other blocks are handed
on (`State.hand`). -/

namespace Sys2Proof.Machine

/-! ## Supply side (R26, R27) -/

/-- A bay counts while ONLINE or DEGRADED. -/
def BayEntry.counts (b : BayEntry) : Bool := b.state = .online || b.state = .degraded

/-- The whole-degree inlet temperature, rounded down and limited to 40 to 60 (step 2 of R26). -/
def wholeDegrees (inlet : Int) : Int := clampInt 40 60 (inlet / 2)

/-- The derated figure of a rating in watts, in qW (steps 3 and 4 of R26). -/
def derate (rating : Nat) (inlet : Int) : Int :=
  (rating : Int) * 4 * (1024 - 26 * (wholeDegrees inlet - 40)) / 1024

/-- The supply figure P of a bay (R26). -/
def supplyFigure (b : BayEntry) : Int :=
  if BayEntry.counts b then
    match b.identity, b.poll with
    | some i, some r =>
      let p := derate (if r.input = .high then i.highLine else i.lowLine) r.inlet
      match r.limit with
      | some w => if b.state = .degraded then min p ((w : Int) * 4) else p
      | none => p
    | _, _ => 0
  else 0

/-- Available capacity, and whether the policy's reserve cannot be met (R27). -/
def capacityOf (policy : Policy) (counting : Vector Bool 4) (p : Vector Int 4) : Int × Bool :=
  let raw := p.toList.sum
  match policy with
  | .none => (raw, false)
  | .nPlus1 =>
    if 2 ≤ countSet counting then (raw - p.toList.foldl max 0, false) else (raw, true)
  | .nPlusN =>
    let a := look p 0 + look p 1
    let b := look p 2 + look p 3
    if 0 < a ∧ 0 < b then (min a b, false) else (raw, true)

/-! ## Demand (R28) -/

/-- The blade constants the device works with for a slot; a blade whose identity was never read has
values the manual does not state (assumption 6). -/
def State.bladeOf (s : State) (sl : Slot) : BladeIdentity :=
  match (s.slotAt sl).identity with
  | some i => i
  | none => ⟨Config.unreadSerial, Config.unreadPortCount, 0, Config.unreadBasePower,
      Config.unreadAllocation, Config.unreadCapacity⟩

/-- Power of the PRESENT control processors. -/
def State.cpDemand (s : State) : Int :=
  (allCps.map fun c =>
    let e := s.cpAt c
    match e.state, e.identity with
    | .present, some i => (i.power : Int) * 4
    | _, _ => 0).sum

/-- Power of the trays not ABSENT: 4000 qW until qualified. -/
def State.trayDemand (s : State) : Int :=
  (allTrays.map fun t =>
    let e := s.trayAt t
    match e.state, e.identity with
    | .absent, _ => 0
    | .qualifying, _ => 4000
    | .rejected, _ => 4000
    | _, some i => (i.power : Int) * 4
    | _, none => 4000).sum

/-- Base power of the charged slots. -/
def State.bladeDemand (s : State) : Int :=
  (allSlots.map fun sl =>
    if look s.ledger.charged sl then ((s.bladeOf sl).basePower : Int) * 4 else 0).sum

/-- Rows of a slot that hold a grant. -/
def State.grantsOf (s : State) (sl : Slot) : Nat := (look s.rows sl).toList.countP (·.grant)

/-- Allocations of the ports in the grant set. -/
def State.grantDemand (s : State) : Int :=
  (allSlots.map fun sl =>
    let n := s.grantsOf sl
    if n = 0 then 0 else (n : Int) * ((s.bladeOf sl).allocation : Int)).sum

/-- Reported output of the counting bays, in qW (R29). -/
def State.measuredDraw (s : State) : Int :=
  (allBays.map fun b =>
    let e := s.bayAt b
    match BayEntry.counts e, e.poll with
    | true, some r => (r.watts : Int) * 4
    | _, _ => 0).sum

/-! ## Readouts and flags (R30, R31) -/

def scaleDivisor : Scale → Int
  | .watts => 4
  | .halfWatts => 2
  | .quarterWatts => 1

/-- A readout: divided by the scale divisor rounding down, then limited to a signed 16-bit value. -/
def readoutOf (sc : Scale) (x : Int) : Int := clampInt (-32768) 32767 (x / scaleDivisor sc)

/-- The unlimited value lies outside the signed 16-bit range. -/
def outOfRange (sc : Scale) (x : Int) : Bool := readoutOf sc x ≠ x / scaleDivisor sc

/-- The exact quantities of the readout set. -/
def Ledger.quantities (l : Ledger) : List Int :=
  l.figure.toList ++ [l.raw, l.available, l.cps, l.trays, l.blades, l.grants, l.demand, l.headroom,
    l.measured, l.margin]

/-- Some readout of the set is saturated at a scale. -/
def Ledger.saturates (l : Ledger) (sc : Scale) : Bool := (Ledger.quantities l).any (outOfRange sc)

/-- The readout set at a scale. -/
def Ledger.readoutSet (l : Ledger) (sc : Scale) : Readouts where
  bay := l.figure.map (readoutOf sc)
  raw := readoutOf sc l.raw
  available := readoutOf sc l.available
  cps := readoutOf sc l.cps
  trays := readoutOf sc l.trays
  blades := readoutOf sc l.blades
  grants := readoutOf sc l.grants
  demand := readoutOf sc l.demand
  headroom := readoutOf sc l.headroom
  measured := readoutOf sc l.measured
  margin := readoutOf sc l.margin

/-- floor(A × m / 100) (R31). -/
def marginOf (available : Int) (percent : Nat) : Int := available * percent / 100

/-- Re-derives the readout set and LEDGER_CLAMP (R30); a changed supply figure readout raises the BAY
table's change count. -/
def State.deriveReadouts (s : State) : State :=
  let r := Ledger.readoutSet s.ledger s.settings.scale
  let sat := Ledger.saturates s.ledger s.settings.scale
  let t := { s with ledger := { s.ledger with
    readouts := r
    saturated := sat
    clamp := s.ledger.clamp || sat } }
  if r.bay.toList = s.ledger.readouts.bay.toList then t else State.bump .bay t

/-- A LEDGER event (R51): action by its position in the table, subject, detail B. -/
def State.ledgerEvent (action : Half) (subject : Half) (b : Half) (s : State) : State :=
  s.report .ledger subject action b

/-- The H readout as an event field. -/
def State.headroomField (s : State) : Half := s16 s.ledger.readouts.headroom

/-- Re-derives LOW and HEADROOM_LOW, sending LOW_ON or LOW_OFF on a change (R31). -/
def State.deriveLow (s : State) : State :=
  let low := decide (s.ledger.headroom < s.ledger.margin)
  let t := { s with ledger := { s.ledger with low := low, headroomLow := s.ledger.headroomLow || low } }
  if low = s.ledger.low then t else t.ledgerEvent (if low then 8 else 9) 0 t.headroomField

/-- A change of warning percent or report scale re-derives the readout set, the margin and LOW, and
recomputes nothing (R25, R30, R31). The margin comes first, so that the set shows the margin in force
(assumption 16). -/
def State.reDerive (s : State) : State :=
  let t := { s with ledger := { s.ledger with
    margin := marginOf s.ledger.available s.settings.warnPercent } }
  t.deriveReadouts.deriveLow

/-! ## Stages of a recompute (R25 to R29) -/

/-- The ledger with the five stages, H, M and the margin computed from the current inputs. DESIGN CHOICE:
the margin is computed with the stages, so that the readout set of step 1 of R29 shows the margin of this
recompute (assumption 16). -/
def State.ledgerStages (s : State) : Ledger :=
  let figure := s.bays.map supplyFigure
  let cap := capacityOf s.settings.policy (s.bays.map BayEntry.counts) figure
  let demand := s.cpDemand + s.trayDemand + s.bladeDemand + s.grantDemand
  { s.ledger with
    figure := figure
    raw := figure.toList.sum
    available := cap.1
    redundancyLost := cap.2
    cps := s.cpDemand
    trays := s.trayDemand
    blades := s.bladeDemand
    grants := s.grantDemand
    demand := demand
    headroom := cap.1 - demand
    measured := s.measuredDraw
    margin := marginOf cap.1 s.settings.warnPercent }

/-! ## Overcommit (R43 to R46) -/

/-- The grace time in ms. -/
def State.graceMs (s : State) : Nat := s.settings.graceTime * 1000

/-- Ends a running restore pass, recording H (R48). -/
def State.endPass (s : State) : State :=
  if s.ledger.pass.isSome then
    { s with ledger := { s.ledger with pass := none, passEnd := some s.ledger.headroom } }
  else s

/-- The charged slot that stands lowest in the shed priority (R45). -/
def State.lowestCharged (s : State) : Option Slot :=
  s.settings.shedPriority.toList.reverse.find? (look s.ledger.charged ·)

/-- Orders the lowest charged slot shed: the order is recorded, SHED is sent and the inventory is
ordered (R45); with no slot charged there is nothing to order. -/
def State.orderShed (s : State) : State :=
  match s.lowestCharged with
  | none => s
  | some sl =>
    ({ s with ledger := { s.ledger with order := some sl } }.ledgerEvent 3 (u16 (sl.val + 1))
      s.headroomField).hand (.shed sl)

/-- The state goes to SHEDDING with a cause (1 OVERLOAD, 2 GRACE_EXPIRED, 3 GRACE_ZERO), and the first
shed is ordered (R43, R44). -/
def State.startShedding (cause : Half) (s : State) : State :=
  ({ s with ledger := { s.ledger with overcommit := .shedding, graceTimer := none } }.ledgerEvent 2 0
    cause).orderShed

/-- An overcommit opens (R43). -/
def State.openOvercommit (s : State) : State :=
  let t := (s.ledgerEvent 0 0 s.headroomField).condition overcommitPoint true
  let t := t.endPass
  let t := { t with ledger := { t.ledger with restoreTimer := none } }
  if t.ledger.raw < t.ledger.measured then t.startShedding 1
  else if t.settings.graceTime = 0 then t.startShedding 3
  else
    { t with ledger := { t.ledger with overcommit := .grace, graceTimer := some t.graceMs } }.ledgerEvent
      1 0 (u16 t.settings.graceTime)

/-- The overcommit closes (R46). DESIGN CHOICE: with a grace time of 0 the restore timer it starts has no time left,
and its expiry is a command of its own (assumption 47). -/
def State.closeOvercommit (s : State) : State :=
  let t := { s with ledger := { s.ledger with overcommit := .closed, graceTimer := none } }
  let t := (t.condition overcommitPoint false).ledgerEvent 4 0 t.headroomField
  if anySet t.ledger.shedSet ∧ t.settings.autoRestore then
    { t with ledger := { t.ledger with restoreTimer := some t.graceMs } }
  else t

/-- Step 4 of R29: the overcommit rules applied to the new H and M. -/
def State.overcommitRules (s : State) : State :=
  match s.ledger.overcommit with
  | .closed =>
    if s.ledger.headroom < 0 ∧ anySet s.ledger.charged then s.openOvercommit else s
  | .grace =>
    if 0 ≤ s.ledger.headroom then s.closeOvercommit
    else if s.ledger.raw < s.ledger.measured then s.startShedding 1
    else s
  | .shedding =>
    if 0 ≤ s.ledger.headroom then s.closeOvercommit
    else if s.ledger.order.isSome then s
    else if anySet s.ledger.charged then s.orderShed
    else s.closeOvercommit

/-! ## Restore pass (R48) -/

/-- A pass starts over the present shed set. -/
def State.startPass (s : State) : State :=
  ({ s with ledger := { s.ledger with pass := some ⟨s.ledger.shedSet, none⟩ } }.ledgerEvent 5 0
    s.headroomField).hand .restore

/-- The pass rule at step 5 of R29. -/
def State.passRule (s : State) : State :=
  match s.ledger.passEnd with
  | some v =>
    if s.ledger.overcommit = .closed ∧ s.settings.autoRestore ∧ anySet s.ledger.shedSet ∧
        s.ledger.restoreTimer = none ∧ s.ledger.pass = none ∧ v < s.ledger.headroom then s.startPass
    else s
  | none => s

/-- The candidates of the running pass not yet offered that are still SHED, highest priority first. -/
def State.candidates (s : State) : List Slot :=
  match s.ledger.pass with
  | none => []
  | some p => s.settings.shedPriority.toList.filter fun sl => look p.remaining sl && look s.ledger.shedSet sl

/-- A pass that has offered every slot left in the set ends. -/
def State.endPassIfDone (s : State) : State := if s.candidates.isEmpty then s.endPass else s

/-- An admitted candidate has left POWERING: the next one may be offered (R48). -/
def State.leftPowering (sl : Slot) (s : State) : State :=
  match s.ledger.pass with
  | some p =>
    if p.waiting = some sl then
      { s with ledger := { s.ledger with pass := some { p with waiting := none } } }.hand .restore
    else s
  | none => s

/-! ## Recompute (R25, R29) -/

/-- The five steps of R29 after the stages; `prev` is the H of the previous recompute. The headroom notice
is handed to the port manager, which takes it by R99. -/
def State.ledgerSteps (prev : Int) (s : State) : State :=
  let t := s.deriveReadouts.deriveLow
  let t := t.condition redundancyLostPoint t.ledger.redundancyLost
  let t := t.overcommitRules
  if t.ledger.overcommit = .closed ∧ prev < t.ledger.headroom then (t.hand .headroom).passRule else t

/-- A recompute; during STARTING inputs are recorded and not computed on (R25). -/
def State.recompute (s : State) : State :=
  if s.starting then s
  else State.ledgerSteps s.ledger.headroom { s with ledger := s.ledgerStages }

/-! ## Admission (R40 to R42) -/

/-- The ledger's answer to a blade's base power: `none` admits it (R40). -/
def State.bladeRefusal (sl : Slot) (s : State) : Option Status :=
  if s.starting then some .busy
  else if s.ledger.overcommit ≠ .closed then some .busy
  else if s.ledger.headroom - ((s.bladeOf sl).basePower : Int) * 4 < 0 then some .full
  else none

/-- The ledger's answer to a port grant (R41). -/
def State.grantAnswer (p : Port) (adoption : Bool) (s : State) : Bool :=
  if !look s.ledger.charged p.slot then false
  else if (s.rowAt p).grant then true
  else if s.starting && !adoption then false
  else if adoption && s.starting then true
  else if s.ledger.overcommit ≠ .closed then false
  else 0 ≤ s.ledger.headroom - ((s.bladeOf p.slot).allocation : Int)

/-- A slot joins the charged slots. -/
def State.charge (sl : Slot) (s : State) : State :=
  { s with ledger := { s.ledger with charged := put s.ledger.charged sl true } }

/-! ## Shed set (R47) and power removal (step 8 of R16) -/

/-- The inventory reports that a slot left SHED; an empty set stops the restore timer and ends a
running pass (R47). A pass whose last slot not yet offered has left the set ends too (step 3 of R48),
except while the slot that leaves is the candidate the pass itself has just admitted, for which the pass
ends once RESTORED has been sent (`State.admitCandidate`). -/
def State.leaveShed (sl : Slot) (s : State) : State :=
  let t := { s with ledger := { s.ledger with shedSet := put s.ledger.shedSet sl false } }
  if anySet t.ledger.shedSet then
    if t.ledger.pass.bind (·.waiting) = some sl then t else t.endPassIfDone
  else
    (({ t with ledger := { t.ledger with restoreTimer := none } }).endPass).condition shedAnyPoint false

/-- The inventory reports that a slot entered SHED. -/
def State.joinShed (sl : Slot) (s : State) : State :=
  State.condition shedAnyPoint true
    { s with ledger := { s.ledger with shedSet := put s.ledger.shedSet sl true } }

/-- What a slot's power-removal notice changes before the recompute: an order outstanding for it ends
(R45), it leaves the charged slots, and joins the shed set when it entered SHED. -/
def State.takeRemoval (sl : Slot) (s : State) : State :=
  let t := { s with ledger := { s.ledger with
    order := if s.ledger.order = some sl then none else s.ledger.order
    charged := put s.ledger.charged sl false } }
  if (t.slotAt sl).state = .shed then t.joinShed sl else t

end Sys2Proof.Machine
end

