-- ==== Sys2Proof/Machine/PortTable.lean ====
section
/-! DEFINITION. The port table (chapter 5) and the licence pool's units (chapter 4): rows, the check
order, bringing ports up and taking them down, walks, unit requests, parking, reclaim and claims. -/

namespace Sys2Proof.Machine

/-! ## Rows and their notices (R88, R93, R106) -/

/-- A row that waits for a unit (R88): its slot is POWERED while it is down with UNLICENSED. -/
def Row.isWaiting (r : Row) : Bool := r.admin && r.cls = .pool && r.cond = .down .unlicensed

/-- Position of a reported condition in the list of R93. -/
def condCode : RowCond → Half
  | .up => 0
  | .enabling => 1
  | .adopted => 2
  | .down _ => 3
  | .nonexistent => 4

/-- Number of a down reason, 0 when absent (R106). -/
def reasonCode : RowCond → Half
  | .down .bladeOff => 1
  | .down .adminDown => 2
  | .down .zoneHold => 3
  | .down .unlicensed => 4
  | .down .noPower => 5
  | _ => 0

/-- LICENCE_DEFICIT is evaluated, and handed when it changes (R88). -/
def State.evalDeficit (s : State) : State :=
  let d := decide (0 < s.pool.waiting)
  let t := { s with pool := { s.pool with deficit := d } }
  if d = s.pool.deficit then t else t.condition licenceDeficitPoint d

/-- The pool takes a new count of waiting rows. LICENCE_DEFICIT follows it (R88), but for STARTING: there
it stays false until the settlement evaluates it (R90, R91). -/
def State.setWaiting (n : Nat) (s : State) : State :=
  let t := { s with pool := { s.pool with waiting := n } }
  if t.starting then t else t.evalDeficit

/-- Replaces a row: PORT_STATE is sent when its reported condition or down reason changes (R106), and
the pool is told when a row's waiting starts or ends (R88). -/
def State.writeRow (p : Port) (r : Row) (s : State) : State :=
  let old := s.rowAt p
  let t := s.setRow p r
  let t := if r.cond = old.cond then t
    else t.report .portState (u16 (Port.global p)) (condCode r.cond) (reasonCode r.cond)
  if Row.isWaiting r = Row.isWaiting old then t
  else if Row.isWaiting r then t.setWaiting (t.pool.waiting + 1)
  else t.setWaiting (t.pool.waiting - 1)

/-- The row takes a condition, its other fields kept. -/
def State.setCond (p : Port) (c : RowCond) (s : State) : State :=
  s.writeRow p { s.rowAt p with cond := c }

/-- The row's unit state changes. -/
def State.setUnit (p : Port) (u : UnitState) (s : State) : State :=
  s.writeRow p { s.rowAt p with unit := u }

/-! ## Units (R81, R82) -/

/-- Units in use U: ASSIGNED and PARKED ports. -/
def State.unitsInUse (s : State) : Nat :=
  (allSlots.map fun sl => (look s.rows sl).toList.countP (fun r => r.unit ≠ .none)).sum

/-- The pool's answer to a unit request (R82): refused, or granted with whether the unit was taken from
NONE. -/
def State.unitAnswer (p : Port) (s : State) : Option Bool :=
  let r := s.rowAt p
  match r.cls, r.unit with
  | .pool, .assigned => some false
  | .pool, .none => if s.unitsInUse < s.pool.capacity then some true else none
  | _, _ => none

/-! ## Check order (R94) -/

/-- The first of checks 1 to 3 that fails. -/
def State.firstFail (p : Port) (s : State) : Option DownReason :=
  if !(s.auxAt p.slot).powered then some .bladeOff
  else if !(s.rowAt p).admin then some .adminDown
  else if !(s.auxAt p.slot).admits then some .zoneHold
  else none

/-- A down row takes the first of checks 1 to 3 that fails; when all pass it keeps its reason (R94). -/
def State.relabel (p : Port) (s : State) : State :=
  match (s.rowAt p).cond, s.firstFail p with
  | .down _, some r => s.setCond p (.down r)
  | _, _ => s

/-- A class 1 port command asked of the scheduler; for a slot in neither POWERING nor POWERED it is
not queued (R16). -/
def State.portCommand (p : Port) (enable : Bool) (s : State) : State :=
  let st := (s.slotAt p.slot).state
  if st = .powering ∨ st = .powered then s.enqueue (.portCommand p enable) else s

/-! ## Bringing a port up (R95) -/

/-- Step 4 of R95: the grant is admitted, the row becomes enabling and its command is asked. A headroom
notice of the recompute stays pending, since a walk or a request is being carried out (R99). -/
def State.bringUp (p : Port) (s : State) : State :=
  let t := (s.writeRow p { s.rowAt p with grant := true }).recompute
  (t.setCond p .enabling).portCommand p true

/-- Steps 3 and 4 of R95; `taken` says that step 2 took the unit from NONE. -/
def State.askPower (p : Port) (taken : Bool) (s : State) : State :=
  if s.grantAnswer p false then s.bringUp p
  else
    let t := if taken then s.setUnit p .none else s
    t.setCond p (.down .noPower)

/-- Evaluates a row (R95): only a down row is evaluated. -/
def State.evaluate (p : Port) (s : State) : State :=
  match (s.rowAt p).cond with
  | .down _ =>
    match s.firstFail p with
    | some r => s.setCond p (.down r)
    | none =>
      match (s.rowAt p).cls with
      | .pool =>
        match s.unitAnswer p with
        | none => s.setCond p (.down .unlicensed)
        | some true => (s.setUnit p .assigned).askPower p true
        | some false => s.askPower p false
      | _ => s.askPower p false
  | _ => s

/-! ## Taking a port down (R97) -/

/-- An enabling, adopted or up row goes down with a reason: its grant is released (with a recompute
outside STARTING) and a port-disable command is asked. Going down is one action, so a headroom notice of
the recompute waits for its end at least (R99). -/
def State.goDown (p : Port) (r : DownReason) (s : State) : State :=
  ((s.writeRow p { s.rowAt p with cond := .down r, grant := false }).recompute).portCommand p false

/-- The row is enabling, adopted or up. -/
def RowCond.live : RowCond → Bool
  | .enabling | .adopted | .up => true
  | _ => false

/-! ## Walks (R98, R99) -/

/-- Evaluates, in ascending global order, the rows of `ps` that satisfy `f` when they are reached. -/
def State.walkOver (ps : List Port) (f : State → Port → Bool) (s : State) : State :=
  ps.foldl (fun t p => if f t p then t.evaluate p else t) s

/-- The walk of a headroom notice: every row down with NO_POWER (R99), but for the ports the notice does not reach
(R87). -/
def State.headroomWalk (out : List Port) (s : State) : State :=
  s.walkOver allPorts fun t p => (t.rowAt p).cond = .down .noPower ∧ p ∉ out

/-- Takes pending headroom notices one after the other, at most as many as the bound says; they do not reach the
ports of `out`. -/
def State.serveNotices (out : List Port) : Nat → State → State
  | 0, s => s
  | n + 1, s =>
    if .headroom ∈ s.agenda then
      State.serveNotices out n (({ s with agenda := s.agenda.erase .headroom }).headroomWalk out)
    else s

/-- The port manager has ended a walk or stands idle: the pending headroom notice starts its walk, and so
does one that this walk brings (R99). They do not reach the ports of `out`. -/
def State.serveBut (out : List Port) (s : State) : State := s.serveNotices out Config.agendaBound

/-- Pending headroom notices, reaching every port (R99). -/
def State.serve (s : State) : State := s.serveBut []

/-- A recompute taken while the port manager stands idle: its headroom notice is acted on at once (R99;
assumption 4 on the pass rule). -/
def State.recomputeNow (s : State) : State := s.recompute.serve

/-- A walk started by a notice, with the pending notices taken after it (R99). -/
def State.walk (ps : List Port) (f : State → Port → Bool) (s : State) : State := (s.walkOver ps f).serve

/-- Availability notice: every waiting row (R83). -/
def State.availabilityWalk (s : State) : State :=
  s.walk allPorts fun t p => Row.isWaiting (t.rowAt p) && (t.auxAt p.slot).powered

/-- Completion notice: down rows of every POWERED slot whose enforcement admits. -/
def State.completionWalk (s : State) : State :=
  s.walk allPorts fun t p => (t.auxAt p.slot).powered && (t.auxAt p.slot).admits

/-- The slot starts admitting: its down rows are evaluated (R98). -/
def State.startsAdmitting (sl : Slot) (s : State) : State :=
  (s.setAux sl { s.auxAt sl with admits := true }).walk (slotPorts sl) fun _ _ => true

/-- The slot stops admitting (R98): up and enabling rows go down, down rows take their reason, adopted
rows keep their condition. This is no walk, so the headroom notice of each release is acted on when the
row has gone down (R99). DESIGN CHOICE: the rows that go down and the down rows that take their reason again are
taken together, in one pass in ascending global order (assumption 43). -/
def State.stopsAdmitting (sl : Slot) (s : State) : State :=
  (slotPorts sl).foldl
    (fun t p =>
      match (t.rowAt p).cond with
      | .up | .enabling => (t.goDown p ((t.firstFail p).getD .zoneHold)).serve
      | _ => t.relabel p)
    (s.setAux sl { s.auxAt sl with admits := false })

/-- The slot entered POWERED: a walk of its down rows (R99, R102). -/
def State.bladePowered (sl : Slot) (s : State) : State :=
  (s.setAux sl { s.auxAt sl with powered := true }).walk (slotPorts sl) fun _ _ => true

/-- The slot left power (step 5 of R16, R102): live rows go down with BLADE_OFF, their grants released
without a recompute and no command asked; other down rows take BLADE_OFF. -/
def State.bladeOff (sl : Slot) (s : State) : State :=
  (slotPorts sl).foldl
    (fun t p =>
      match (t.rowAt p).cond with
      | .nonexistent => t
      | _ => t.writeRow p { t.rowAt p with cond := .down .bladeOff, grant := false })
    (s.setAux sl { s.auxAt sl with powered := false, admits := false })

/-! ## Blades arriving and leaving (R80, R102) -/

/-- Licence class of a local port under an identity (R80). -/
def classOf (i : BladeIdentity) (k : Fin 48) : LicenceClass :=
  if k.val < i.baseCount ∧ k.val < i.portCount then .base
  else if k.val < i.portCount then .pool
  else .nonexistent

/-- A port blade qualified: rows below its port count take their class and become down with
BLADE_OFF. -/
def State.rowsQualify (sl : Slot) (i : BladeIdentity) (s : State) : State :=
  (slotPorts sl).foldl
    (fun t p =>
      match classOf i p.idx with
      | .nonexistent => t
      | c => t.writeRow p { t.rowAt p with cls := c, cond := .down .bladeOff }) s

/-- Presence lost (step 3 of R17): all 48 rows become nonexistent; admin and unit states are kept. -/
def State.rowsLost (sl : Slot) (s : State) : State :=
  (slotPorts sl).foldl
    (fun t p =>
      t.writeRow p { t.rowAt p with cls := .nonexistent, cond := .nonexistent, grant := false }) s

/-! ## Licence events and notices (R83, R92) -/

/-- A LICENCE_CHANGE event: action by its position in the table of R92. -/
def State.licenceEvent (action : Half) (subject b : Nat) (s : State) : State :=
  s.report .licenceChange (u16 subject) action (u16 b)

/-- The availability notice, when free units are above 0 (R83). -/
def State.availability (s : State) : State :=
  if s.unitsInUse < s.pool.capacity then s.availabilityWalk else s

/-- Ports of a slot in a unit state. -/
def State.portsIn (sl : Slot) (u : UnitState) (s : State) : List Port :=
  (slotPorts sl).filter fun p => (s.rowAt p).unit = u

/-- Stops the slot's park timer when its last PARKED unit is gone (R84, R85, R87). -/
def State.stopParkIfEmpty (sl : Slot) (s : State) : State :=
  if (s.portsIn sl .parked).isEmpty then s.setAux sl { s.auxAt sl with parkTimer := none } else s

/-- The park timer expires: every PARKED port of the slot returns to NONE (R85). -/
def State.parkExpire (sl : Slot) (s : State) : State :=
  let ps := s.portsIn sl .parked
  let t := ps.foldl (fun t p => t.setUnit p .none) (s.setAux sl { s.auxAt sl with parkTimer := none })
  (t.licenceEvent 7 (sl.val + 1) ps.length).availability

/-- A blade is removed: its ASSIGNED units become PARKED and the park timer starts; a park time of 0
releases them at once (R85). -/
def State.parkUnits (sl : Slot) (s : State) : State :=
  let ps := s.portsIn sl .assigned
  if ps.isEmpty then s
  else
    let t := ps.foldl (fun t p => t.setUnit p .parked) s
    let t := t.setAux sl { t.auxAt sl with parkTimer := some (t.settings.parkTime * 1000) }
    let t := t.licenceEvent 4 (sl.val + 1) ps.length
    if t.settings.parkTime = 0 then t.parkExpire sl else t

/-- A blade qualifies while the park timer runs: units of its POOL ports return to them and the other
parked units are freed (R85). -/
def State.restoreParked (sl : Slot) (i : BladeIdentity) (s : State) : State :=
  if (s.auxAt sl).parkTimer.isSome then
    let ps := s.portsIn sl .parked
    let back := ps.filter fun p => classOf i p.idx = .pool
    let freed := ps.filter fun p => classOf i p.idx ≠ .pool
    let t := s.setAux sl { s.auxAt sl with parkTimer := none }
    let t := back.foldl (fun t p => t.setUnit p .assigned) t
    let t := freed.foldl (fun t p => t.setUnit p .none) t
    let t := if back.isEmpty then t else t.licenceEvent 5 (sl.val + 1) back.length
    if freed.isEmpty then t else (t.licenceEvent 6 (sl.val + 1) freed.length).availability
  else s

/-! ## Capacity and reclaim (R76, R79, R87) -/

/-- A record that counts toward the capacity. -/
def LicenceRec.isTrial (r : LicenceRec) : Bool := r.fields.kind = 2

/-- The smaller of 384 and the sum of the units of the VALID records (R76). -/
def capacityFrom (t : List LicenceRec) : Nat :=
  min 384 ((t.filter fun r => !r.expired).map fun r => r.fields.units.toNat).sum

/-- LICENCE_EXPIRING (R79). -/
def expiringFrom (t : List LicenceRec) : Bool :=
  t.any fun r => !r.expired && LicenceRec.isTrial r && r.fields.minutes.toNat < 1440

/-- Evaluates LICENCE_EXPIRING, handing it when it changes (R79). -/
def State.evalExpiring (s : State) : State :=
  let v := expiringFrom s.pool.table
  let t := { s with pool := { s.pool with expiring := v } }
  if v = s.pool.expiring then t else t.condition licenceExpiringPoint v

/-- Derives the capacity again (R76). -/
def State.deriveCapacity (s : State) : State :=
  { s with pool := { s.pool with capacity := capacityFrom s.pool.table } }

/-- The next unit a reclaim takes, with its tier (R87). -/
def State.victim (s : State) : Option (Port × Nat) :=
  let ps := allPorts.reverse
  let pick (f : Row → Bool) := ps.find? fun p => f (s.rowAt p)
  match pick fun r => r.unit = .parked with
  | some p => some (p, 1)
  | none =>
    match pick fun r => r.unit = .assigned && !r.admin with
    | some p => some (p, 2)
    | none =>
      match pick fun r => r.unit = .assigned && !RowCond.live r.cond with
      | some p => some (p, 3)
      | none => (pick fun r => r.unit = .assigned).map (·, 3)

/-- Takes one unit back (R87): UNIT_RECLAIMED is sent, and an enabling, adopted or up row goes down
with UNLICENSED in the same action, after which the headroom notice of its release is acted on (R99). `out` are the
ports whose units the reclaim has taken, which the notice does not reach (R87). DESIGN CHOICE: one of them that is
down with NO_POWER is none of the rows of R99 either (assumption 46), and UNIT_RECLAIMED precedes the row's
PORT_STATE and the change of LICENCE_DEFICIT (assumption 33). -/
def State.reclaimOne (p : Port) (tier : Nat) (out : List Port) (s : State) : State :=
  let r := s.rowAt p
  let t := s.report .unitReclaimed (u16 (Port.global p)) (u16 tier) (u16 (s.unitsInUse - 1))
  if RowCond.live r.cond then
    (((t.writeRow p { r with unit := .none, cond := .down .unlicensed, grant := false }).recompute).portCommand
      p false).serveBut out
  else (t.setUnit p .none).stopParkIfEmpty p.slot

/-- Takes `n` units back (R87), those of `out` having been taken already. -/
def State.reclaim : Nat → List Port → State → State
  | 0, _, s => s
  | n + 1, out, s =>
    match s.victim with
    | none => s
    | some (p, tier) => State.reclaim n (p :: out) (s.reclaimOne p tier (p :: out))

/-- What follows a derivation of the capacity (R76): an availability notice when C rose above U, a
reclaim when C is below U. -/
def State.capacityEffect (old : Nat) (s : State) : State :=
  if s.pool.capacity < s.unitsInUse then s.reclaim (s.unitsInUse - s.pool.capacity) []
  else if old < s.pool.capacity then s.availability
  else s

/-! ## Adoption claims (R90) and the judgement of adopted rows (R104) -/

/-- A claim added in ascending global order, none twice. -/
def insertClaim (p : Port) : List Port → List Port
  | [] => [p]
  | q :: qs =>
    if p = q then q :: qs
    else if Port.global p < Port.global q then p :: q :: qs
    else q :: insertClaim p qs

/-- An adoption unit asked for a POOL row: its port joins the claim list. -/
def State.claimUnit (p : Port) (s : State) : State :=
  { s with pool := { s.pool with claims := insertClaim p s.pool.claims } }

/-- The pool settles one claim: dropped when its slot is not POWERED, assigned while U is below C,
refused otherwise. -/
def State.settleClaim (s : State) (p : Port) : State :=
  if (s.slotAt p.slot).state = .powered ∧ s.unitsInUse < s.pool.capacity then s.setUnit p .assigned
  else s

/-- The port manager judges one adopted row (R104). -/
def State.judgeAdopted (s : State) (p : Port) : State :=
  let r := s.rowAt p
  if r.cond = .adopted then
    match s.firstFail p with
    | some x => s.goDown p x
    | none =>
      if r.cls = .pool ∧ r.unit ≠ .assigned then s.goDown p .unlicensed else s.setCond p .up
  else s

/-- The settlement at the end of STARTING: the pool's walk, the judgement of adopted rows, the emptied
list, SETTLED with the number of claims assigned, LICENCE_DEFICIT, and the availability notice (R90,
R104). -/
def State.settleClaims (s : State) : State :=
  let t := s.pool.claims.foldl State.settleClaim s
  let n := t.unitsInUse - s.unitsInUse
  let t := allPorts.foldl State.judgeAdopted t
  let t := { t with pool := { t.pool with claims := [] } }
  ((t.licenceEvent 8 0 n).evalDeficit.availability).evalDeficit

/-- The rows of an adopted blade rebuilt (R103): a row of the held set becomes adopted with an adoption
grant and, for POOL, a claim; every other row is evaluated. It is taken in STARTING, where no recompute
brings a notice. -/
def State.adoptRows (sl : Slot) (held : Vector Bool 48) (s : State) : State :=
  (slotPorts sl).foldl
    (fun t p =>
      let r := t.rowAt p
      if look held p.idx ∧ r.cond ≠ .nonexistent then
        let t := t.writeRow p { r with cond := .adopted, grant := true }
        if r.cls = .pool then t.claimUnit p else t
      else t.evaluate p)
    (s.setAux sl { s.auxAt sl with powered := true })

end Sys2Proof.Machine
end

