-- ==== Sys2Proof/Machine/Zoning.lean ====
section
/-! DEFINITION. The zoning engine (chapters 6 and 7): the edits of a database, the transaction, the
enforcement states, the commit phases and what start-up and polls do to a slot's enforcement. -/

namespace Sys2Proof.Machine

/-! ## A database (section 6.1) -/

/-- The zones of a database. -/
def ZoneDb.zoneDefs (db : ZoneDb) : List ZoneDef := db.zones.toList.filterMap id

/-- The configurations of a database. -/
def ZoneDb.configDefs (db : ZoneDb) : List ConfigDef := db.configs.toList.filterMap id

/-- Member count: the sum of the list lengths of the zones (R108). -/
def ZoneDb.memberCount (db : ZoneDb) : Nat := (db.zoneDefs.map (·.members.length)).sum

def ZoneDb.summary (db : ZoneDb) : DbSummary where
  zones := db.zoneDefs.length
  members := db.memberCount
  configs := db.configDefs.length
  selection := db.selection
  access := db.access

/-- The lowest unused zone index (R107). -/
def ZoneDb.freeZone (db : ZoneDb) : Option (Fin 512) :=
  (allFin 512).find? fun i => (look db.zones i).isNone

/-- The lowest unused configuration index (R109). -/
def ZoneDb.freeConfig (db : ZoneDb) : Option (Fin 8) :=
  (allFin 8).find? fun i => (look db.configs i).isNone

/-- A zone of the database carries the name. -/
def ZoneDb.hasZoneNamed (db : ZoneDb) (n : Name) : Bool := db.zoneDefs.any (·.name = n)

/-- A zone at another index carries the name. -/
def ZoneDb.otherZoneNamed (db : ZoneDb) (i : Fin 512) (n : Name) : Bool :=
  (allFin 512).any fun j => j ≠ i && ((look db.zones j).map (·.name)) = some n

def ZoneDb.hasConfigNamed (db : ZoneDb) (n : Name) : Bool := db.configDefs.any (·.name = n)

/-- Some configuration lists the zone. -/
def ZoneDb.zoneListed (db : ZoneDb) (i : Fin 512) : Bool := db.configDefs.any (i ∈ ·.zones)

/-- The effective content of a database (R129). -/
def ZoneDb.effective (db : ZoneDb) : Content where
  zones := db.selection.map fun c =>
    match look db.configs c with
    | some cfg => cfg.zones.map fun i => (i, ((look db.zones i).map (·.members)).getD [])
    | none => []
  access := db.access

def ZoneDb.putZone (db : ZoneDb) (i : Fin 512) (z : Option ZoneDef) : ZoneDb :=
  { db with zones := put db.zones i z }

def ZoneDb.putConfig (db : ZoneDb) (i : Fin 8) (c : Option ConfigDef) : ZoneDb :=
  { db with configs := put db.configs i c }

/-! ## Edits (R113 to R120) -/

/-- What tests 4 and 5 of R113 and the edit give: a refusal, the state that already holds, or a changed
database with the staged tables it changed. -/
inductive EditResult where
  | refused (st : Status)
  | same (r : Results)
  | zones (db : ZoneDb) (r : Results)
  | configs (db : ZoneDb) (r : Results)
  deriving DecidableEq, Repr

/-- R114. -/
def ZoneDb.createZone (n : Name) (db : ZoneDb) : EditResult :=
  if !nameOk n then .refused .invalid
  else if db.hasZoneNamed n then .refused .duplicate
  else
    match db.freeZone with
    | none => .refused .full
    | some i => .zones (db.putZone i (some ⟨n, []⟩)) (.value i.val)

/-- R114. -/
def ZoneDb.renameZone (z : Nat) (n : Name) (db : ZoneDb) : EditResult :=
  match zoneIndex z with
  | none => .refused .invalid
  | some i =>
    if !nameOk n then .refused .invalid
    else
      match look db.zones i with
      | none => .refused .notFound
      | some d =>
        if db.otherZoneNamed i n then .refused .duplicate
        else if d.name = n then .same (.value i.val)
        else .zones (db.putZone i (some { d with name := n })) (.value i.val)

/-- R115. -/
def ZoneDb.deleteZone (z : Nat) (db : ZoneDb) : EditResult :=
  match zoneIndex z with
  | none => .refused .invalid
  | some i =>
    if (look db.zones i).isNone then .refused .notFound
    else if db.zoneListed i then .refused .inUse
    else
      let t := db.putZone i none
      .zones t (.value t.memberCount)

/-- R116. -/
def ZoneDb.addMember (z : Nat) (m : RawMember) (db : ZoneDb) : EditResult :=
  match zoneIndex z, memberOf m with
  | some i, some x =>
    match look db.zones i with
    | none => .refused .notFound
    | some d =>
      if x ∈ d.members then .refused .duplicate
      else if 64 ≤ d.members.length ∨ 4096 ≤ db.memberCount then .refused .full
      else
        let t := db.putZone i (some { d with members := d.members ++ [x] })
        .zones t (.values (d.members.length + 1) t.memberCount)
  | _, _ => .refused .invalid

/-- R117. -/
def ZoneDb.removeMember (z : Nat) (m : RawMember) (db : ZoneDb) : EditResult :=
  match zoneIndex z, memberOf m with
  | some i, some x =>
    match look db.zones i with
    | none => .refused .notFound
    | some d =>
      if x ∈ d.members then
        let t := db.putZone i (some { d with members := d.members.erase x })
        .zones t (.values (d.members.erase x).length t.memberCount)
      else .refused .notFound
  | _, _ => .refused .invalid

/-- R118. -/
def ZoneDb.createConfig (n : Name) (z : Nat) (db : ZoneDb) : EditResult :=
  match zoneIndex z with
  | none => .refused .invalid
  | some i =>
    if !nameOk n then .refused .invalid
    else if (look db.zones i).isNone then .refused .notFound
    else if db.hasConfigNamed n then .refused .duplicate
    else
      match db.freeConfig with
      | none => .refused .full
      | some c => .configs (db.putConfig c (some ⟨n, [i]⟩)) (.value c.val)

/-- R118. -/
def ZoneDb.deleteConfig (c : Nat) (db : ZoneDb) : EditResult :=
  match configIndex c with
  | none => .refused .invalid
  | some i =>
    if (look db.configs i).isNone then .refused .notFound
    else if db.selection = some i then .refused .inUse
    else .configs (db.putConfig i none) .none

/-- R119. -/
def ZoneDb.addZoneToConfig (c z : Nat) (db : ZoneDb) : EditResult :=
  match configIndex c, zoneIndex z with
  | some i, some k =>
    match look db.configs i, look db.zones k with
    | some d, some _ =>
      if k ∈ d.zones then .refused .duplicate
      else if 256 ≤ d.zones.length then .refused .full
      else .configs (db.putConfig i (some { d with zones := d.zones ++ [k] }))
        (.value (d.zones.length + 1))
    | _, _ => .refused .notFound
  | _, _ => .refused .invalid

/-- R119. -/
def ZoneDb.removeZoneFromConfig (c z : Nat) (db : ZoneDb) : EditResult :=
  match configIndex c, zoneIndex z with
  | some i, some k =>
    match look db.configs i with
    | none => .refused .notFound
    | some d =>
      if k ∈ d.zones then
        if d.zones.length = 1 then .refused .inUse
        else .configs (db.putConfig i (some { d with zones := d.zones.erase k }))
          (.value (d.zones.erase k).length)
      else .refused .notFound
  | _, _ => .refused .invalid

/-- R120: an index names a configuration; none is the selection NONE. -/
def ZoneDb.selectConfig (c : Option Nat) (db : ZoneDb) : EditResult :=
  match c with
  | none =>
    if db.selection = none then .same .none else .configs { db with selection := none } .none
  | some n =>
    match configIndex n with
    | none => .refused .invalid
    | some i =>
      if (look db.configs i).isNone then .refused .notFound
      else if db.selection = some i then .same .none
      else .configs { db with selection := some i } .none

/-- R120: an access value that is neither of the two is not well formed. -/
def ZoneDb.setAccess (a : Option Access) (db : ZoneDb) : EditResult :=
  match a with
  | none => .refused .invalid
  | some x => if db.access = x then .same .none else .configs { db with access := x } .none

/-! ## The transaction (R112, R113, R121, R122) -/

/-- Tests 1 to 3 of R113. -/
def State.transactionTests (l : LinkId) (s : State) : Option Status :=
  match s.zoning.txn with
  | none => some .noTransaction
  | some t =>
    if ctlOfLink l ≠ some t.owner then some .notOwner
    else if s.zoning.phase = .validating then some .busy
    else none

/-- Replaces the open transaction. -/
def State.setTxn (t : Option Transaction) (s : State) : State :=
  { s with zoning := { s.zoning with txn := t } }

/-- An accepted edit: the staging database, and the edit count (saturating). -/
def Transaction.edited (t : Transaction) (db : ZoneDb) : Transaction :=
  { t with db := db, edits := min (t.edits + 1) 65535 }

/-- An edit request past the arbiter's checks (R113). -/
def State.runEdit (h : Header) (f : ZoneDb → EditResult) (s : State) : State :=
  match s.transactionTests h.link with
  | some st => s.respond h.link h.tag st .none
  | none =>
    match s.zoning.txn with
    | none => s.respond h.link h.tag .noTransaction .none
    | some t =>
      match f t.db with
      | .refused st => s.respond h.link h.tag st .none
      | .same r => s.respond h.link h.tag .ok r
      | .zones db r =>
        (State.bump .zoneStaged (s.setTxn (some (t.edited db)))).respond h.link h.tag .ok r
      | .configs db r =>
        (State.bump .configStaged (s.setTxn (some (t.edited db)))).respond h.link h.tag .ok r

/-- Number of a control link in an event (1 link A, 2 link B). -/
def Ctl.code : Ctl → Half
  | .ctlA => 1
  | .ctlB => 2

/-- Abort causes (R125). -/
inductive AbortCause where
  | requested | leaseExpired | yielded | released | linkReset
  deriving DecidableEq, Repr

def AbortCause.code : AbortCause → Half
  | .requested => 1
  | .leaseExpired => 2
  | .yielded => 3
  | .released => 4
  | .linkReset => 5

/-- Answers the COMMIT outstanding on a link (R122, R128, R129). -/
def State.answerCommit (l : LinkId) (st : Status) (r : Results) (s : State) : State :=
  match (s.linkAt l).outstanding with
  | some o =>
    if o.kind = .commit then
      State.setLink l { s.linkAt l with outstanding := none, response := some ⟨o.tag, st, r⟩ } s
    else s
  | none => s

/-- The open transaction is discarded and TRANSACTION_ABORTED is sent (R121, R125). -/
def State.abort (cause : AbortCause) (s : State) : State :=
  match s.zoning.txn with
  | none => s
  | some t =>
    (State.bump .configStaged (State.bump .zoneStaged (s.setTxn none))).report .transactionAborted
      (Ctl.code t.owner) (AbortCause.code cause) (u16 t.edits)

/-- The abort by loss of role (R122): a validation under way is abandoned, its COMMIT answered
NOT_ACTIVE unless the link has been reset. -/
def State.abortByLoss (cause : AbortCause) (s : State) : State :=
  match s.zoning.txn with
  | none => s
  | some t =>
    let validating := s.zoning.phase = .validating
    let s := s.abort cause
    if validating then
      let s := { s with zoning := { s.zoning with phase := .idle } }
      if cause = .linkReset then s
      else s.answerCommit (Ctl.link t.owner) .notActive (.roles s.arbiter.epoch s.arbiter.holder)
    else s

/-! ## Enforcement states (section 7.1, R138, R140) -/

/-- Causes of ENFORCEMENT_STATE (R140). -/
inductive EnforceCause where
  | commit | acknowledged | retryFailed | power | lostImage | startup
  deriving DecidableEq, Repr

def EnforceCause.code : EnforceCause → Half
  | .commit => 1
  | .acknowledged => 2
  | .retryFailed => 3
  | .power => 4
  | .lostImage => 5
  | .startup => 6

def Enforcement.code : Enforcement → Half
  | .none => 0
  | .pending => 1
  | .current => 2
  | .previous => 3
  | .stale => 4
  | .tooSmall => 5

/-- The ENFORCE_STALE_s condition. -/
def Enforcement.isStale (e : Enforcement) : Bool := e = .stale || e = .tooSmall

def State.enforcementOf (sl : Slot) (s : State) : Enforcement := (s.slotAt sl).enforcement

/-- A slot takes an enforcement state and an attempt count: ENFORCEMENT_STATE is sent when the state
changes (R140), and ENFORCE_STALE_s handed when it changes (R138). -/
def State.setEnforcement (sl : Slot) (e : Enforcement) (attempt : Nat) (cause : EnforceCause)
    (s : State) : State :=
  let old := s.enforcementOf sl
  let t := s.setSlot sl { s.slotAt sl with enforcement := e, attempt := attempt }
  if e = old then t
  else
    let t := t.report .enforcementState (u16 (sl.val + 1)) (Enforcement.code e)
      (EnforceCause.code cause)
    if Enforcement.isStale e = Enforcement.isStale old then t
    else t.condition (enforceStale sl) (Enforcement.isStale e)

/-- The slot's re-push timer. -/
def State.setRepush (sl : Slot) (t : Option Nat) (s : State) : State :=
  s.setAux sl { s.auxAt sl with repushTimer := t }

/-- Queues a push to a slot. -/
def State.queuePush (sl : Slot) (s : State) : State := s.enqueue (.push sl)

/-- The slot becomes PENDING with attempt count 1 and its push queued. -/
def State.startPush (sl : Slot) (cause : EnforceCause) (s : State) : State :=
  (s.setEnforcement sl .pending 1 cause).queuePush sl

/-- The active content's image fits the slot's blade (R126). -/
def State.fits (sl : Slot) (s : State) : Bool :=
  imageSize s.zoning.active sl ≤ (s.bladeOf sl).capacity

/-! ## The end of a commit (R130, R134) -/

/-- Number of slots in an enforcement state. -/
def State.countEnforcement (e : Enforcement) (s : State) : Nat :=
  s.slots.toList.countP (·.enforcement = e)

/-- The commit ends: IDLE, and COMMIT_DONE (R140). -/
def State.finishCommit (s : State) : State :=
  ({ s with zoning := { s.zoning with phase := .idle } }).report .commitDone
    (if s.zoning.saved = SavedFlag.yes then 1 else 0) (u16 (s.countEnforcement .current))
    (u16 (s.countEnforcement .stale))

/-- A distribution ends when its wait set is empty, with the completion notice (R134). -/
def State.endDistribution (s : State) : State :=
  if s.zoning.phase = .distributing ∧ !anySet s.zoning.waitSet then
    s.finishCommit.completionWalk
  else s

/-- A slot leaves the wait set. -/
def State.leaveWaitSet (sl : Slot) (s : State) : State :=
  if look s.zoning.waitSet sl then
    { s with zoning := { s.zoning with waitSet := put s.zoning.waitSet sl false } }.endDistribution
  else s

/-! ## Commit phases (R127 to R131) -/

/-- A COMMIT_PROGRESS event (R140). -/
def State.commitProgress (phase b : Half) (s : State) : State :=
  s.report .commitProgress (Ctl.code s.zoning.requester) phase b

/-- The first zone with no members in the selected configuration's list order (test 2 of R128). -/
def ZoneDb.emptyZone (db : ZoneDb) : Option (Fin 512) :=
  ((Content.zoneList db.effective).find? (·.2.isEmpty)).map (·.1)

/-- The lowest POWERING or POWERED slot whose image over a database exceeds its blade (test 3). -/
def State.tooLarge (db : ZoneDb) (s : State) : Option Slot :=
  allSlots.find? fun sl =>
    ((s.slotAt sl).state = .powering || (s.slotAt sl).state = .powered) &&
      (s.bladeOf sl).capacity < imageSize db.effective sl

/-- A hold kind is in effect: some link's latch is set (R153). -/
def State.holdEffective (k : HoldKind) (s : State) : Bool :=
  match k with
  | .zoningFreeze => s.arbiter.latches.toList.any (·.freeze)
  | .coolingOverride => s.arbiter.latches.toList.any (·.override)

/-- The commit state returns to IDLE after a failed validation, its COMMIT answered (R128). -/
def State.failValidation (l : LinkId) (st : Status) (r : Results) (s : State) : State :=
  ({ s with zoning := { s.zoning with phase := .idle } }).answerCommit l st r

/-- A validation that passes (R129), entering SAVING (R130). -/
def State.passValidation (t : Transaction) (s : State) : State :=
  let changed := decide (t.db.effective ≠ s.zoning.active)
  let gen := if changed then s.zoning.activeGen + 1 else s.zoning.activeGen
  let u := { s with zoning := { s.zoning with
    defined := t.db
    txn := none
    changed := changed
    commitGen := gen
    saved := .pending
    phase := .saving } }
  let u := State.bump .configStaged (State.bump .zoneStaged
    (State.bump .configDefined (State.bump .zoneDefined u)))
  ((u.markDirty .zoning).commitProgress 1 (if changed then 1 else 0)).answerCommit
    (Ctl.link t.owner) .ok (.committed gen changed)

/-- One slot of the new wait set becomes PREVIOUS (step 2 of R131). -/
def State.becomePrevious (s : State) (sl : Slot) : State := s.setEnforcement sl .previous 1 .commit

/-- A TOO_SMALL slot examined against the new content (step 4 of R131). -/
def State.examineTooSmall (s : State) (sl : Slot) : State :=
  if s.enforcementOf sl = .tooSmall ∧ s.fits sl then s.startPush sl .commit else s

/-- The commit enters DISTRIBUTING (R131). DESIGN CHOICE: step 4 examines the TOO_SMALL slots in ascending order,
for which the rule gives none (assumption 39). -/
def State.distribute (s : State) : State :=
  let wait := s.slots.map fun e => decide (e.enforcement = .current)
  let inSet := allSlots.filter (look wait ·)
  let t := State.bump .zoneActive { s with zoning := { s.zoning with
    active := s.zoning.defined.effective
    activeGen := s.zoning.commitGen
    waitSet := wait
    phase := .distributing } }
  let t := t.commitProgress 3 (u16 (countSet wait))
  let t := inSet.foldl State.becomePrevious t
  let t := inSet.foldl (fun t sl => t.queuePush sl) t
  (allSlots.foldl State.examineTooSmall t).endDistribution

/-- SAVING ends with the outcome of its write (R130). -/
def State.endSaving (good : Bool) (s : State) : State :=
  let t := { s with zoning := { s.zoning with saved := if good then SavedFlag.yes else SavedFlag.no } }
  let t := t.commitProgress 2 (if good then 1 else 0)
  if t.zoning.changed then t.distribute else t.finishCommit

/-! ## Push outcomes (R132) -/

/-- A PREVIOUS or PENDING slot's push acknowledged with the active generation. -/
def State.pushCurrent (sl : Slot) (s : State) : State :=
  let old := s.enforcementOf sl
  let t := s.setEnforcement sl .current (s.slotAt sl).attempt .acknowledged
  if old = .previous then t.leaveWaitSet sl else t.startsAdmitting sl

/-- The second attempt of a push cycle failed: STALE, with the re-push timer started. -/
def State.pushStale (sl : Slot) (s : State) : State :=
  let old := s.enforcementOf sl
  let t := (s.setEnforcement sl .stale 0 .retryFailed).setRepush sl (some Config.repushMs)
  if old = .previous then (t.stopsAdmitting sl).leaveWaitSet sl else t

/-- The outcome of a push of generation `pushed`, with the generation its reply carries (`none` on a
timeout), taken according to the slot's state (R132). DESIGN CHOICE: a timeout or a mismatched reply of a push
whose generation is no longer active counts as any other (assumption 44). -/
def State.pushOutcome (sl : Slot) (pushed : Word) (reply : Option Word) (s : State) : State :=
  let e := s.slotAt sl
  let good := decide (reply = some pushed)
  match e.enforcement with
  | .previous | .pending =>
    if good then
      if pushed = s.zoning.activeGen then s.pushCurrent sl
      else (s.setSlot sl { e with attempt := 1 }).queuePush sl
    else if e.attempt ≤ 1 then (s.setSlot sl { e with attempt := 2 }).queuePush sl
    else s.pushStale sl
  | .stale =>
    if good then
      if pushed = s.zoning.activeGen then (s.pushCurrent sl).setRepush sl none
      else (s.setRepush sl none).queuePush sl
    else s.setRepush sl (some Config.repushMs)
  | _ => s

/-! ## Power and polls (R135, R136) -/

/-- A slot entered POWERED (R135). -/
def State.enforcePowerUp (sl : Slot) (cause : EnforceCause) (s : State) : State :=
  if s.fits sl then s.startPush sl cause else s.setEnforcement sl .tooSmall 0 cause

/-- A slot left power (step 6 of R16, R135). -/
def State.enforceOff (sl : Slot) (s : State) : State :=
  let t := s.setEnforcement sl .none 0 .power
  (t.setAux sl { t.auxAt sl with repushTimer := none, kept := none }).leaveWaitSet sl

/-- The held generation of an accepted blade poll (R136). -/
def State.compareHeld (sl : Slot) (held : Option Word) (s : State) : State :=
  if s.enforcementOf sl = .current ∧ held ≠ some s.zoning.activeGen then
    (s.startPush sl .lostImage).stopsAdmitting sl
  else s

/-! ## Start-up (R139) -/

/-- An adopted slot judged against a section that passed its check. The attempt count of a slot judged
CURRENT, 0, is DESIGN CHOICE (assumption 18). -/
def State.judgeKept (sl : Slot) (held : Option Word) (s : State) : State :=
  if held = some s.zoning.activeGen then
    (s.setEnforcement sl .current 0 .startup).startsAdmitting sl
  else s.enforcePowerUp sl .startup

/-- Adoption of a slot with its blade's held generation. The attempt count of a slot left PENDING with no
push queued yet, 1, is DESIGN CHOICE (assumption 18). -/
def State.enforceAdopted (sl : Slot) (held : Option Word) (s : State) : State :=
  if look s.store.loaded (StoreSection.idx .zoning) = .good then s.judgeKept sl held
  else
    let t := s.setEnforcement sl .pending 1 .startup
    t.setAux sl { t.auxAt sl with kept := some held }

/-- The zoning section has been judged good: the slots adopted before it and still PENDING are judged,
ascending: DESIGN CHOICE, R139 gives that order after a failed section alone (assumption 39). -/
def State.judgeAllKept (s : State) : State :=
  allSlots.foldl
    (fun t sl =>
      match (t.auxAt sl).kept with
      | some held =>
        let u := t.setAux sl { t.auxAt sl with kept := none }
        if t.enforcementOf sl = .pending then u.judgeKept sl held else u
      | none => t) s

/-- The generation fixed when STARTING ends after a failed section: one more than the largest held
generation kept, or 1. -/
def State.fixedGeneration (s : State) : Word :=
  match s.aux.toList.filterMap (fun a => a.kept.bind id) with
  | [] => 1
  | g :: gs => gs.foldl (fun a b => if a ≤ b then b else a) g + 1

/-- The end of STARTING at the engine when the section failed (R139): the generation is fixed and a
push is queued for every slot still PENDING, ascending. No commit has run, so the commit generation equals
the active one (section 7.1). -/
def State.fixGeneration (s : State) : State :=
  if look s.store.loaded (StoreSection.idx .zoning) = .failed then
    let gen := s.fixedGeneration
    let t := { s with
      zoning := { s.zoning with activeGen := gen, commitGen := gen }
      aux := s.aux.map fun a => { a with kept := none } }
    allSlots.foldl (fun t sl => if t.enforcementOf sl = .pending then t.queuePush sl else t) t
  else s

/-- READ ZONING's results (R123, R140). -/
def State.zoningSummary (s : State) : ZoningSummary where
  owner := s.zoning.txn.map (·.owner)
  opening := (s.zoning.txn.map (·.opening)).getD 0
  edits := (s.zoning.txn.map (·.edits)).getD 0
  defined := s.zoning.defined.summary
  staging := (s.zoning.txn.map (·.db.summary)).getD ⟨0, 0, 0, none, .noAccess⟩
  counts := #v[s.countOf .zoneDefined, s.countOf .configDefined, s.countOf .zoneStaged,
    s.countOf .configStaged]
  phase := s.zoning.phase
  requester := s.zoning.requester
  changed := s.zoning.changed
  commitGen := s.zoning.commitGen
  saved := s.zoning.saved
  waitSet := s.zoning.waitSet
  activeGen := s.zoning.activeGen

end Sys2Proof.Machine
end

