-- ==== Sys2Proof/Machine/Cooling.lean ====
section
/-! DEFINITION. The cooling controller (chapter 3): contributing modules, zone temperature, the fan curve,
floors, updates, raises and temperature states. -/

namespace Sys2Proof.Machine

/-! ## Geometry (section 1.2 of the introduction) -/

/-- Zone L holds slots 1 to 4. -/
def zoneOfSlot (sl : Slot) : AirZone := if sl.val < 4 then .zoneL else .zoneR

/-- CP-A in zone L, CP-B in zone R. -/
def zoneOfCp : Cp → AirZone
  | .cpA => .zoneL
  | .cpB => .zoneR

def cpOfZone : AirZone → Cp
  | .zoneL => .cpA
  | .zoneR => .cpB

/-- Trays 1 and 2 in zone L. -/
def zoneOfTray (t : Tray) : AirZone := if t.val < 2 then .zoneL else .zoneR

def traysOf (z : AirZone) : List Tray := allTrays.filter (zoneOfTray · = z)
def slotsOf (z : AirZone) : List Slot := allSlots.filter (zoneOfSlot · = z)

/-! ## Zone temperature (R53, R54) -/

/-- Valid sensor values of a port blade. -/
def SlotEntry.validSensors (e : SlotEntry) : List Int :=
  if 3 ≤ e.missed then []
  else
    match e.poll with
    | some r => r.sensor1.toList ++ r.sensor2.toList
    | none => []

/-- Valid sensor values of a control processor. -/
def CpEntry.validSensors (e : CpEntry) : List Int :=
  if 3 ≤ e.missed then []
  else
    match e.poll with
    | some r => r.toList
    | none => []

/-- Valid sensors of a zone's contributing modules. -/
def State.zoneSensors (z : AirZone) (s : State) : List Int :=
  ((slotsOf z).flatMap fun sl =>
    if look s.cooling.slots sl then (s.slotAt sl).validSensors else []) ++
  (if look s.cooling.cps (Cp.idx (cpOfZone z)) then (s.cpAt (cpOfZone z)).validSensors else [])

/-- Some contributing module's sensors are unknown. -/
def State.zoneUnknown (z : AirZone) (s : State) : Bool :=
  ((slotsOf z).any fun sl => look s.cooling.slots sl && 3 ≤ (s.slotAt sl).missed) ||
    (look s.cooling.cps (Cp.idx (cpOfZone z)) && 3 ≤ (s.cpAt (cpOfZone z)).missed)

/-- Tz: the largest valid sensor, or t0 when there is none. -/
def State.zoneTemp (z : AirZone) (s : State) : Int :=
  match s.zoneSensors z with
  | [] => look s.settings.curveTemp 0
  | t :: ts => ts.foldl max t

/-! ## Fan curve (R55) -/

/-- a / b rounded toward positive infinity. -/
def ceilDiv (a b : Nat) : Nat := (a + b - 1) / b

/-- The curve above its first breakpoint temperature. -/
def curveSegment : List (Int × Nat) → Int → Nat
  | (t0, d0) :: (t1, d1) :: rest, x =>
    if x < t1 then d0 + ceilDiv ((d1 - d0) * (x - t0).toNat) (t1 - t0).toNat
    else curveSegment ((t1, d1) :: rest) x
  | [(_, d)], _ => d
  | [], _ => 0

/-- curve(T): flat below t0 and above t5, and by segment between. -/
def curveValue (ts : Vector Int 6) (ds : Vector Nat 6) (x : Int) : Nat :=
  if x ≤ look ts 0 then look ds 0
  else if look ts 5 ≤ x then look ds 5
  else curveSegment (ts.toList.zip ds.toList) x

/-- The curve in force. -/
def State.curve (x : Int) (s : State) : Nat := curveValue s.settings.curveTemp s.settings.curveDuty x

/-- The new curve demand under hysteresis (R57). -/
def nextDemand (up down prev : Nat) : Nat :=
  if prev ≤ up then up else if down < prev then down else prev

/-! ## Floors (R58) -/

/-- A tray is not cooling while ABSENT, REJECTED or FAILED (R21). -/
def TrayState.notCooling : TrayState → Bool
  | .absent | .rejected | .failed => true
  | .qualifying | .running | .degraded => false

/-- Some tray of the chassis is not cooling. -/
def State.anyNotCooling (s : State) : Bool :=
  s.trays.toList.any fun e => TrayState.notCooling e.state

/-- The five floors of R58's table, in force or not, in its order. -/
def State.floors (z : AirZone) (s : State) : Vector Bool 5 :=
  #v[(traysOf z).any fun t => anySet (s.trayAt t).failed,
    (s.zoneAt z).unknown,
    (s.zoneAt z).temp = .crit || (s.zoneAt z).temp = .shutdown,
    s.holdEffective .coolingOverride,
    s.anyNotCooling]

/-- The largest floor in force, 0 when none is. -/
def floorDuty (f : Vector Bool 5) : Nat :=
  if look f 1 || look f 2 || look f 3 || look f 4 then 100 else if look f 0 then 80 else 0

/-- The target for a curve demand (R59, R60). -/
def State.targetFor (z : AirZone) (demand : Nat) (s : State) : Nat :=
  max demand (max s.settings.trayMin (floorDuty (s.floors z)))

/-- The tray's applied duty, on its fan drive output. -/
def State.setDuty (t : Tray) (d : Nat) (s : State) : State := s.setTray t { s.trayAt t with duty := d }

/-! ## Raise (R60) -/

/-- Raises every tray of the zone that stands below the target of the current curve demand. -/
def State.raise (z : AirZone) (s : State) : State :=
  let target := s.targetFor z (s.zoneAt z).demand
  let below := (traysOf z).filter fun t => (s.trayAt t).duty < target
  if below.isEmpty then s
  else
    below.foldl (fun t tr => t.setDuty tr target) (s.setZone z { s.zoneAt z with target := target })

/-- The raise in both zones. -/
def State.raiseBoth (s : State) : State := (s.raise .zoneL).raise .zoneR

/-! ## Update (R56 to R59) -/

/-- One tray moved toward the target: up at once, down by at most 5. -/
def nextDuty (target prev : Nat) : Nat := if prev ≤ target then target else max target (prev - 5)

/-- The zone's update. -/
def State.updateZone (z : AirZone) (s : State) : State :=
  let c := s.zoneAt z
  let demand := nextDemand (s.curve c.tz) (s.curve (min (c.tz + s.settings.hysteresis) 250)) c.demand
  let target := s.targetFor z demand
  (traysOf z).foldl (fun t tr => t.setDuty tr (nextDuty target (t.trayAt tr).duty))
    (s.setZone z { c with demand := demand, target := target, updateTimer := some Config.updateMs })

/-! ## Temperature states (R61, R62, R63) -/

def TempState.rank : TempState → Nat
  | .normal => 0
  | .warn => 1
  | .crit => 2
  | .shutdown => 3

/-- The highest state whose threshold a temperature reaches. -/
def reached (f : Settings) (t : Int) : TempState :=
  if f.shutdownAt ≤ t then .shutdown
  else if f.critAt ≤ t then .crit
  else if f.warnAt ≤ t then .warn
  else .normal

/-- A clear point: the threshold less 6. -/
def clearPoint (threshold : Int) : Int := threshold - 6

/-- The falling step of R61, repeated against each state's clear point. -/
def fallFrom (f : Settings) (t : Int) : TempState → TempState
  | .shutdown =>
    if t < clearPoint f.shutdownAt then
      if t < clearPoint f.critAt then
        if t < clearPoint f.warnAt then .normal else .warn
      else .crit
    else .shutdown
  | .crit =>
    if t < clearPoint f.critAt then
      if t < clearPoint f.warnAt then .normal else .warn
    else .crit
  | .warn => if t < clearPoint f.warnAt then .normal else .warn
  | .normal => .normal

/-- The state an evaluation leaves (R61). -/
def nextTempState (f : Settings) (t : Int) (old : TempState) : TempState :=
  if TempState.rank old < TempState.rank (reached f t) then reached f t else fallFrom f t old

/-- Number of a zone in an event (1 zone L, 2 zone R). -/
def AirZone.code : AirZone → Half
  | .zoneL => 1
  | .zoneR => 2

/-- The zone's three temperature conditions. -/
def State.handTempConditions (z : AirZone) (st : TempState) (s : State) : State :=
  ((s.condition (zoneWarn z) (1 ≤ TempState.rank st)).condition (zoneCrit z)
    (2 ≤ TempState.rank st)).condition (zoneShutdown z) (3 ≤ TempState.rank st)

/-- Orders every POWERING or POWERED slot of the zone thermal-off, in ascending order (R63). -/
def State.orderThermalOff (z : AirZone) (s : State) : State :=
  (slotsOf z).foldl
    (fun t sl =>
      if (t.slotAt sl).state = .powering ∨ (t.slotAt sl).state = .powered then
        t.hand (.thermalOff sl)
      else t) s

/-- Evaluates the zone's temperature state (R61, R62). -/
def State.evaluateTemp (z : AirZone) (s : State) : State :=
  let c := s.zoneAt z
  let st := nextTempState s.settings c.tz c.temp
  if st = c.temp then s
  else
    let t := s.setZone z { c with temp := st }
    let t := (t.handTempConditions z st).report .zoneTempState (AirZone.code z)
      (u16 (TempState.rank st)) (s16 c.tz)
    let t := if st = .crit ∨ st = .shutdown then t.raise z else t
    if st = .shutdown then t.orderThermalOff z else t

/-- Derives Tz and the UNKNOWN flag of a zone, then evaluates its state (R54). -/
def State.deriveZone (z : AirZone) (s : State) : State :=
  let c := s.zoneAt z
  let u := s.zoneUnknown z
  let t := s.setZone z { c with tz := s.zoneTemp z, unknown := u }
  let t := if u = c.unknown then t else t.condition (sensorUnknown z) u
  let t := if u && !c.unknown then t.raise z else t
  t.evaluateTemp z

/-- A change of the fan curve re-derives each zone with no valid sensor (R54, R66, R70), zone L before zone
R: DESIGN CHOICE, the rules give the zones no order (assumption 30). -/
def State.deriveSensorless (s : State) : State :=
  allZones.foldl (fun t z => if (t.zoneSensors z).isEmpty then t.deriveZone z else t) s

/-! ## Contributing modules (R53) -/

def State.setContributing (sl : Slot) (v : Bool) (s : State) : State :=
  { s with cooling := { s.cooling with slots := put s.cooling.slots sl v } }

def State.setCpContributing (c : Cp) (v : Bool) (s : State) : State :=
  { s with cooling := { s.cooling with cps := put s.cooling.cps (Cp.idx c) v } }

/-- A blade joins its zone. -/
def State.coolingJoin (sl : Slot) (s : State) : State :=
  (s.setContributing sl true).deriveZone (zoneOfSlot sl)

/-- A blade leaves its zone, if it contributes. -/
def State.coolingLeave (sl : Slot) (s : State) : State :=
  if look s.cooling.slots sl then (s.setContributing sl false).deriveZone (zoneOfSlot sl) else s

/-- A control processor joins its zone. -/
def State.coolingJoinCp (c : Cp) (s : State) : State :=
  (s.setCpContributing c true).deriveZone (zoneOfCp c)

/-- A control processor leaves its zone, if it contributes. -/
def State.coolingLeaveCp (c : Cp) (s : State) : State :=
  if look s.cooling.cps (Cp.idx c) then (s.setCpContributing c false).deriveZone (zoneOfCp c) else s

/-- A contributing blade's values or missed count changed. -/
def State.coolingUpdate (sl : Slot) (s : State) : State :=
  if look s.cooling.slots sl then s.deriveZone (zoneOfSlot sl) else s

/-- A contributing control processor's values or missed count changed. -/
def State.coolingUpdateCp (c : Cp) (s : State) : State :=
  if look s.cooling.cps (Cp.idx c) then s.deriveZone (zoneOfCp c) else s

/-- A slot that entered POWERING or POWERED in a SHUTDOWN zone is ordered thermal-off (R64). -/
def State.shutdownEntry (sl : Slot) (s : State) : State :=
  if (s.zoneAt (zoneOfSlot sl)).temp = .shutdown then s.hand (.thermalOff sl) else s

/-- The zone of a slot is below the CRIT clear point (R65). -/
def State.belowCritClear (sl : Slot) (s : State) : Bool :=
  (s.zoneAt (zoneOfSlot sl)).tz < clearPoint s.settings.critAt

/-! ## READ COOLING (R69) -/

def State.zoneSummary (z : AirZone) (s : State) : ZoneSummary where
  tz := (s.zoneAt z).tz
  validSensors := (s.zoneSensors z).length
  unknown := (s.zoneAt z).unknown
  temp := (s.zoneAt z).temp
  demand := (s.zoneAt z).demand
  target := (s.zoneAt z).target
  floors := s.floors z
  updateLeft := (s.zoneAt z).updateTimer.getD 0

def State.coolingSummary (s : State) : CoolingSummary where
  zoneL := s.zoneSummary .zoneL
  zoneR := s.zoneSummary .zoneR
  duty := s.trays.map (·.duty)
  curveTemp := s.settings.curveTemp
  curveDuty := s.settings.curveDuty
  hysteresis := s.settings.hysteresis
  trayMin := s.settings.trayMin
  warnAt := s.settings.warnAt
  critAt := s.settings.critAt
  shutdownAt := s.settings.shutdownAt

end Sys2Proof.Machine
end

