-- ==== Sys2Proof/Machine/Inventory.lean ====
section
/-! DEFINITION. The inventory (chapter 1): module states and their events, qualification, presence taken
and lost, blade power, polls, rotors and warm-restart adoption. -/

namespace Sys2Proof.Machine

/-! ## Numbers in inventory events (R24, R172) -/

def SlotState.code : SlotState → Half
  | .empty => 0
  | .qualifying => 1
  | .rejected => 2
  | .off => 3
  | .powering => 4
  | .powered => 5
  | .faulted => 6
  | .shed => 7
  | .thermalOff => 8

def CpState.code : CpState → Half
  | .empty => 0
  | .qualifying => 1
  | .present => 2
  | .rejected => 3

def BayState.code : BayState → Half
  | .absent => 0
  | .qualifying => 1
  | .rejected => 2
  | .standby => 3
  | .online => 4
  | .degraded => 5
  | .failed => 6

def TrayState.code : TrayState → Half
  | .absent => 0
  | .qualifying => 1
  | .rejected => 2
  | .running => 3
  | .degraded => 4
  | .failed => 5

def Cause.code : Cause → Half
  | .presence => 0
  | .absence => 1
  | .qualified => 2
  | .rejectedTimeout => 3
  | .rejectedCheck => 4
  | .rejectedFit => 5
  | .request => 6
  | .admitted => 7
  | .ready => 8
  | .faultCode => 9
  | .readyTimeout => 10
  | .notReady => 11
  | .commandTimeout => 12
  | .shed => 13
  | .thermal => 14
  | .restored => 15
  | .adopted => 16
  | .notAdopted => 17
  | .poll => 18
  | .unresponsive => 19
  | .responsive => 20

/-- Subject of a control-processor slot: 9 for CP-A, 10 for CP-B. -/
def Cp.subject : Cp → Half
  | .cpA => 9
  | .cpB => 10

/-! ## State changes and their reports -/

/-- SLOT_STATE of a port-blade slot with its present state. -/
def State.slotEvent (sl : Slot) (c : Cause) (s : State) : State :=
  s.report .slotState (u16 (sl.val + 1)) (SlotState.code (s.slotAt sl).state) (Cause.code c)

/-- SLOT_STATE of a control-processor slot with its present state. -/
def State.cpEvent (p : Cp) (c : Cause) (s : State) : State :=
  s.report .slotState (Cp.subject p) (CpState.code (s.cpAt p).state) (Cause.code c)

/-- SLOT_FAULT of a port-blade slot: FAULTED or unresponsive (R10). -/
def SlotEntry.fault (e : SlotEntry) : Bool := e.state = .faulted || e.unresponsive

/-- The slot takes a state: its event is sent, and a slot leaving SHED is reported to the ledger. -/
def State.enterSlotState (sl : Slot) (st : SlotState) (c : Cause) (s : State) : State :=
  let old := s.slotAt sl
  let t := (s.setSlot sl { old with state := st, cause := some c }).slotEvent sl c
  if old.state = .shed ∧ st ≠ .shed then t.leaveShed sl else t

/-- The slot takes a state, with SLOT_FAULT handed when it changes. -/
def State.setSlotState (sl : Slot) (st : SlotState) (c : Cause) (s : State) : State :=
  let old := SlotEntry.fault (s.slotAt sl)
  let t := s.enterSlotState sl st c
  if SlotEntry.fault (t.slotAt sl) = old then t
  else t.condition (slotFault sl) (SlotEntry.fault (t.slotAt sl))

def State.setCpState (p : Cp) (st : CpState) (c : Cause) (s : State) : State :=
  (s.setCp p { s.cpAt p with state := st, cause := some c }).cpEvent p c

/-- PSU_b_FAIL and PSU_b_DEGRADED follow the bay's state (R19). -/
def State.handBayConditions (b : Bay) (s : State) : State :=
  let st := (s.bayAt b).state
  (s.condition (psuFail b) (st = .failed)).condition (psuDegraded b) (st = .degraded || st = .standby)

/-- The bay takes an entry: a changed state keeps its cause, is reported, its conditions are handed, and
the ledger is told. -/
def State.setBayEntry (b : Bay) (e : BayEntry) (c : Cause) (s : State) : State :=
  if e.state = (s.bayAt b).state then s.setBay b e
  else
    (((s.setBay b { e with cause := some c }).report .bayState (u16 (b.val + 1)) (BayState.code e.state)
      (Cause.code c)).handBayConditions b).recomputeNow

/-- FAN_TRAY_t follows the tray's state (R21). -/
def State.handTrayCondition (t : Tray) (s : State) : State :=
  s.condition (fanTray t) (TrayState.notCooling (s.trayAt t).state)

/-- The tray takes a state: a change keeps its cause and is reported, FAN_TRAY_t is handed, and a tray that
becomes not cooling starts the raise in both zones (R21, R60). -/
def State.setTrayState (t : Tray) (st : TrayState) (c : Cause) (s : State) : State :=
  let old := (s.trayAt t).state
  if st = old then s
  else
    let u := s.setTray t { s.trayAt t with state := st, cause := some c }
    let u := (u.report .trayState (u16 (t.val + 1)) (TrayState.code st) (Cause.code c)).handTrayCondition t
    if TrayState.notCooling st && !TrayState.notCooling old then u.raiseBoth else u

/-! ## Polls (R8) -/

/-- Whether a position is polled. -/
def State.polled (pos : Position) (s : State) : Bool :=
  match pos with
  | .slot sl =>
    match (s.slotAt sl).state with
    | .empty | .rejected => false
    | .qualifying => (s.auxAt sl).matched
    | _ => true
  | .cp c => (s.cpAt c).state = .present
  | .bay b =>
    match (s.bayAt b).state with
    | .absent | .rejected => false
    | .qualifying => (s.bayAt b).identity.isSome
    | _ => true
  | .tray t =>
    match (s.trayAt t).state with
    | .running | .degraded | .failed => true
    | _ => false

def State.setPollTimer (pos : Position) (t : Option Nat) (s : State) : State :=
  s.setCtl pos { s.ctlAt pos with pollTimer := t }

/-- Queues a poll of a position. -/
def State.queuePoll (pos : Position) (s : State) : State := s.enqueue (.poll pos)

/-- The module's poll ended: the poll timer starts while the position is polled. -/
def State.pollEnded (pos : Position) (s : State) : State :=
  if s.polled pos then s.setPollTimer pos (some Config.pollMs) else s

/-! ## Qualification (R6) -/

/-- Attempt count 0 and a queued identity read. -/
def State.startHandshake (pos : Position) (s : State) : State :=
  (s.setCtl pos { s.ctlAt pos with attempts := 0 }).enqueue (.identity pos)

/-- The record of a position enters QUALIFYING with a cause. -/
def State.enterQualifying (pos : Position) (c : Cause) (s : State) : State :=
  match pos with
  | .slot sl => (s.setSlotState sl .qualifying c).startHandshake pos
  | .cp p => (s.setCpState p .qualifying c).startHandshake pos
  | .bay b => (s.setBayEntry b { s.bayAt b with state := .qualifying } c).startHandshake pos
  | .tray t => (s.setTrayState t .qualifying c).startHandshake pos

/-! ## Blade power (R14, R16) -/

/-- The ledger takes a slot's power-removal notice (step 8 of R16) and recomputes once. -/
def State.removalNotice (sl : Slot) (s : State) : State := (s.takeRemoval sl).recomputeNow

def State.setLine (sl : Slot) (v : Bool) (s : State) : State :=
  s.setAux sl { s.auxAt sl with line := v }

def State.setReadyTimer (sl : Slot) (t : Option Nat) (s : State) : State :=
  s.setAux sl { s.auxAt sl with readyTimer := t }

/-- An admitted slot enters POWERING (R14), charged from entry. -/
def State.powerUp (sl : Slot) (c : Cause) (s : State) : State :=
  let t := (s.charge sl).setSlotState sl .powering c
  let t := ((t.setLine sl true).setReadyTimer sl (some Config.readyMs)).enqueue (.powerEnable sl)
  t.recomputeNow.shutdownEntry sl

/-- A POWERING slot enters POWERED (R14): port manager, zoning engine and cooling controller are told in
that order. DESIGN CHOICE: the zone is derived with the blade in it before R64 asks whether the zone is in
SHUTDOWN (assumption 32). -/
def State.enterPowered (sl : Slot) (s : State) : State :=
  let t := (s.setReadyTimer sl none).setSlotState sl .powered .ready
  let t := ((t.bladePowered sl).enforcePowerUp sl .power).coolingJoin sl
  (t.shutdownEntry sl).leftPowering sl

/-- Steps 1 to 7 of R16. -/
def State.removePower (sl : Slot) (s : State) : State :=
  let t := s.setAux sl { s.auxAt sl with line := false, readyTimer := none }
  let t := t.withdrawPower sl
  let t := t.setAux sl { t.auxAt sl with enabled := fill 48 false }
  (((t.bladeOff sl).enforceOff sl).coolingLeave sl).leftPowering sl

/-- A POWERING or POWERED slot leaves power for a state (R16); a slot in neither is left as it is. -/
def State.leavePower (sl : Slot) (st : SlotState) (c : Cause) (s : State) : State :=
  if (s.slotAt sl).state = .powering ∨ (s.slotAt sl).state = .powered then
    ((s.setSlotState sl st c).removePower sl).removalNotice sl
  else s

/-! ## Adoption candidates (R22, R23) -/

/-- The candidate's line is released and its held record dropped. -/
def State.dropHeld (sl : Slot) (s : State) : State :=
  s.setAux sl { s.auxAt sl with line := false, held := none, matched := false }

/-- A matched candidate that leaves QUALIFYING shows its rows from now on (R80). -/
def State.rowsOfIdentity (sl : Slot) (s : State) : State :=
  match (s.slotAt sl).identity with
  | some i => s.rowsQualify sl i
  | none => s

/-- A candidate released to FAULTED; a candidate that was not polled is polled from now on. -/
def State.releaseCandidate (sl : Slot) (c : Cause) (s : State) : State :=
  let polled := s.polled (.slot sl)
  let t := ((s.dropHeld sl).setSlotState sl .faulted c).rowsOfIdentity sl
  if polled then t else t.queuePoll (.slot sl)

/-- The first ready reply adopts the blade, which hands its held generation on (R23). DESIGN CHOICE: R23
gives the blocks no order; the port manager rebuilds the rows before the zoning engine sets the
enforcement state, so a row outside the held set goes down with ZONE_HOLD and is evaluated again when the
slot becomes CURRENT (assumption 28). Before that the rows take their classes and BLADE_OFF, each with its
event, while the POWERED input is still false (assumption 28 too). The zone is derived with the blade in it before R64 asks whether the
zone is in SHUTDOWN (assumption 32). -/
def State.adopt (sl : Slot) (h : HeldBlade) (gen : Option Word) (s : State) : State :=
  let t := (s.setSlotState sl .powered .adopted).charge sl
  let t := t.setAux sl { t.auxAt sl with held := none, matched := false, enabled := h.enabled }
  let t := (t.rowsOfIdentity sl).adoptRows sl h.enabled
  ((t.enforceAdopted sl gen).coolingJoin sl).shutdownEntry sl

/-! ## Qualified, rejected (R6, R11) -/

/-- Auto-power at the moment a blade enters OFF from qualification (R11); deferred in STARTING. -/
def State.autoPower (sl : Slot) (s : State) : State :=
  if s.starting then s
  else if (s.slotAt sl).autoPower ∧ s.bladeRefusal sl = none then s.powerUp sl .admitted
  else s

/-- A port blade qualified: OFF, its rows and parked units, its first poll, and auto-power. -/
def State.qualifyBlade (sl : Slot) (i : BladeIdentity) (s : State) : State :=
  let t := s.setSlot sl { s.slotAt sl with identity := some i }
  let t := (t.setSlotState sl .off .qualified).queuePoll (.slot sl)
  ((t.rowsQualify sl i).restoreParked sl i).autoPower sl

/-- A slot in QUALIFYING whose module is rejected; a candidate's line is released first (R23). -/
def State.rejectBlade (sl : Slot) (c : Cause) (s : State) : State :=
  (s.dropHeld sl).setSlotState sl .rejected c

/-- A port blade's identity reply judged (R5, R6, R23). -/
def State.bladeIdentity (sl : Slot) (r : IdentityReply) (s : State) : State :=
  match judgeIdentity .portBlade bladeFields r with
  | .checkFailure => s.rejectBlade sl .rejectedCheck
  | .misfit => s.rejectBlade sl .rejectedFit
  | .qualified i =>
    match (s.auxAt sl).held with
    | some h =>
      if i.serial = h.serial ∧ i.portCount = h.portCount then
        ((s.setSlot sl { s.slotAt sl with identity := some i }).setAux sl
          { s.auxAt sl with matched := true }).queuePoll (.slot sl)
      else (s.dropHeld sl).qualifyBlade sl i
    | none => s.qualifyBlade sl i

/-- A control processor's identity reply judged. -/
def State.cpIdentity (p : Cp) (r : IdentityReply) (s : State) : State :=
  match judgeIdentity .controlProcessor cpFields r with
  | .checkFailure => s.setCpState p .rejected .rejectedCheck
  | .misfit => s.setCpState p .rejected .rejectedFit
  | .qualified i =>
    ((((s.setCp p { s.cpAt p with identity := some i }).setCpState p .present .qualified).queuePoll
      (.cp p))).recomputeNow

/-- A power supply's identity reply judged: a qualified bay stays QUALIFYING and is polled. -/
def State.bayIdentity (b : Bay) (r : IdentityReply) (s : State) : State :=
  match judgeIdentity .powerSupply supplyFields r with
  | .checkFailure => s.setBayEntry b { s.bayAt b with state := .rejected } .rejectedCheck
  | .misfit => s.setBayEntry b { s.bayAt b with state := .rejected } .rejectedFit
  | .qualified i => (s.setBay b { s.bayAt b with identity := some i }).queuePoll (.bay b)

/-- A fan tray's identity reply judged: a qualified tray is RUNNING with all rotors good. -/
def State.trayIdentity (t : Tray) (r : IdentityReply) (s : State) : State :=
  match judgeIdentity .fanTray trayFields r with
  | .checkFailure => s.setTrayState t .rejected .rejectedCheck
  | .misfit => s.setTrayState t .rejected .rejectedFit
  | .qualified i =>
    let u := (s.setTray t { s.trayAt t with identity := some i, failed := fill 3 false }).setTrayAux t
      TrayAux.atStart
    ((u.setTrayState t .running .qualified).queuePoll (.tray t)).recomputeNow

/-- The record at a position is in QUALIFYING with its identity not yet read: the outcome of a read is taken
then alone. DESIGN CHOICE: a read still waiting or running when its candidate is released NOT_ADOPTED stays on
the bus, and its outcome changes nothing, so the identity stays unread (assumption 36). -/
def State.reading (pos : Position) (s : State) : Bool :=
  match pos with
  | .slot sl => (s.slotAt sl).state = .qualifying && !(s.auxAt sl).matched
  | .cp c => (s.cpAt c).state = .qualifying
  | .bay b => (s.bayAt b).state = .qualifying && (s.bayAt b).identity.isNone
  | .tray t => (s.trayAt t).state = .qualifying

/-- An identity read's reply (R6). -/
def State.identityTaken (pos : Position) (r : IdentityReply) (s : State) : State :=
  if s.reading pos then
    match pos with
    | .slot sl => s.bladeIdentity sl r
    | .cp c => s.cpIdentity c r
    | .bay b => s.bayIdentity b r
    | .tray t => s.trayIdentity t r
  else s

/-- The module at a position is rejected with cause TIMEOUT; a candidate goes to FAULTED (R23). -/
def State.rejectTimeout (pos : Position) (s : State) : State :=
  match pos with
  | .slot sl =>
    if (s.auxAt sl).held.isSome then s.releaseCandidate sl .notAdopted
    else s.setSlotState sl .rejected .rejectedTimeout
  | .cp c => s.setCpState c .rejected .rejectedTimeout
  | .bay b => s.setBayEntry b { s.bayAt b with state := .rejected } .rejectedTimeout
  | .tray t => s.setTrayState t .rejected .rejectedTimeout

/-- An identity read timed out (R6): three attempts in all. -/
def State.identityLost (pos : Position) (s : State) : State :=
  if s.reading pos then
    let n := (s.ctlAt pos).attempts + 1
    let t := s.setCtl pos { s.ctlAt pos with attempts := n }
    if n < 3 then t.enqueue (.identity pos) else t.rejectTimeout pos
  else s

/-! ## Presence taken and lost (R4, R17 to R19, R21) -/

/-- Loss of presence at a port-blade slot (R17). -/
def State.slotLost (sl : Slot) (s : State) : State :=
  let old := s.slotAt sl
  let powered := old.state = .powering || old.state = .powered
  let t := s.enterSlotState sl .empty .absence
  let t := if powered then t.removePower sl else t.dropHeld sl
  let t := t.withdrawAll (.slot sl)
  let t := t.setSlot sl { t.slotAt sl with unresponsive := false, poll := none, missed := 0 }
  let t := (t.rowsLost sl).parkUnits sl
  let t := t.setSlot sl { t.slotAt sl with identity := none }
  let t := t.condition (slotFault sl) false
  if powered then t.removalNotice sl else t

/-- Loss of presence at a control-processor slot (R18). -/
def State.cpLost (p : Cp) (s : State) : State :=
  let t := (s.withdrawAll (.cp p)).setCpState p .empty .absence
  let t := t.setCp p { t.cpAt p with unresponsive := false, missed := 0, poll := none, identity := none }
  (t.recomputeNow.coolingLeaveCp p).condition (cpFault p) false

/-- Loss of presence at a bay (R19). -/
def State.bayLost (b : Bay) (s : State) : State :=
  (s.withdrawAll (.bay b)).setBayEntry b
    { BayEntry.atStart with cause := some .absence } .absence

/-- One rotor's failed flag changes: ROTOR_STATE with the deciding speed, and FAN_ROTOR_r (R20, R24). -/
def State.setRotor (t : Tray) (k : Fin 3) (v : Bool) (speed : Nat) (s : State) : State :=
  if look (s.trayAt t).failed k = v then s
  else
    ((s.setTray t { s.trayAt t with failed := put (s.trayAt t).failed k v }).report .rotorState
      (u16 (t.val * 3 + k.val + 1)) (if v then 1 else 0) (u16 speed)).condition (fanRotor t k) v

/-- Loss of presence at a tray (R20, R21). -/
def State.trayLost (t : Tray) (s : State) : State :=
  let u := (s.withdrawAll (.tray t)).setTrayState t .absent .absence
  let u := (allFin 3).foldl (fun u k => u.setRotor t k false 0) u
  let u := u.setTray t { u.trayAt t with cause := some .absence, identity := none, speeds := none }
  (u.setTrayAux t TrayAux.atStart).recomputeNow

/-- The record at a position is EMPTY or ABSENT. -/
def State.vacant (pos : Position) (s : State) : Bool :=
  match pos with
  | .slot sl => (s.slotAt sl).state = .empty
  | .cp c => (s.cpAt c).state = .empty
  | .bay b => (s.bayAt b).state = .absent
  | .tray t => (s.trayAt t).state = .absent

/-- Presence taken at a position whose record is EMPTY or ABSENT (R4). -/
def State.presenceTaken (pos : Position) (s : State) : State :=
  if s.vacant pos then
    let t := s.enterQualifying pos .presence
    match pos with
    | .tray _ => t.recomputeNow
    | _ => t
  else s

/-- Loss of presence taken at a position (R4): its poll timer stops. -/
def State.presenceLost (pos : Position) (s : State) : State :=
  let t := s.setPollTimer pos none
  match pos with
  | .slot sl => t.slotLost sl
  | .cp c => t.cpLost c
  | .bay b => t.bayLost b
  | .tray tr => t.trayLost tr

/-- ABSENT taken at a position already ABSENT, after a start: a candidate's line is released (R23), and a
tray's condition is handed. DESIGN CHOICE: R4 does not say what a first ABSENT does at a slot whose
candidate was released before any presence was taken; it is no loss of presence here, and leaves that slot
as it is (assumption 34). -/
def State.absentTaken (pos : Position) (s : State) : State :=
  match pos with
  | .slot sl => if (s.auxAt sl).held.isSome then s.dropHeld sl else s
  | .tray t => s.handTrayCondition t
  | _ => s

/-- The candidate becomes the taken presence (R4). -/
def State.takePresence (pos : Position) (v : Bool) (s : State) : State :=
  let old := (s.ctlAt pos).taken
  let t := s.setCtl pos { s.ctlAt pos with taken := v, debounce := none, judged := true }
  match old, v with
  | false, true => t.presenceTaken pos
  | true, false => t.presenceLost pos
  | false, false => t.absentTaken pos
  | true, true => t

/-! ## Accepted poll replies (R9, R14, R15, R19, R20, R21, R23) -/

/-- A blade poll as accepted: sensors outside their range are absent, and fault code 0 is none. -/
def acceptBlade (r : BladePoll) : BladePoll :=
  { r with
    fault := if r.fault = some 0 then none else r.fault
    sensor1 := sensorOf r.sensor1
    sensor2 := sensorOf r.sensor2 }

/-- The record of an accepted blade reply; a cleared flag is reported RESPONSIVE. -/
def State.recordBlade (sl : Slot) (r : BladePoll) (s : State) : State :=
  let old := s.slotAt sl
  let t := s.setSlot sl { old with poll := some r, missed := 0, unresponsive := false }
  if old.unresponsive then
    let t := t.slotEvent sl .responsive
    if SlotEntry.fault (t.slotAt sl) then t else t.condition (slotFault sl) false
  else t

/-- A matched candidate's reply (R23). -/
def State.candidateReply (sl : Slot) (r : BladePoll) (s : State) : State :=
  match (s.auxAt sl).held with
  | some h =>
    if r.fault.isSome then s.releaseCandidate sl .faultCode
    else if r.ready then s.adopt sl h r.held
    else s
  | none => s

/-- A blade's accepted poll reply. DESIGN CHOICE (assumption 12): a fault code is tested before readiness,
so FAULT_CODE is the cause of a reply that carries a fault code and is not ready; and R15 is taken before
the sensor values and the held generation are handed on, so a reply that faults the slot gives neither a
derivation of Tz with its values (R54) nor a comparison by R136. -/
def State.bladeReply (sl : Slot) (raw : BladePoll) (s : State) : State :=
  let r := acceptBlade raw
  let t := s.recordBlade sl r
  match (s.slotAt sl).state with
  | .qualifying => t.candidateReply sl r
  | .powering =>
    if r.fault.isSome then t.leavePower sl .faulted .faultCode
    else if r.ready then t.enterPowered sl
    else t
  | .powered =>
    if r.fault.isSome then t.leavePower sl .faulted .faultCode
    else if r.ready then (t.compareHeld sl r.held).coolingUpdate sl
    else t.leavePower sl .faulted .notReady
  | _ => t

/-- A control processor's accepted poll reply: its sensor joins the zone with the first one (R53). -/
def State.cpReply (p : Cp) (sensor : Option Int) (s : State) : State :=
  let old := s.cpAt p
  let t := s.setCp p { old with poll := some (sensorOf sensor), missed := 0, unresponsive := false }
  let t := if old.unresponsive then (t.cpEvent p .responsive).condition (cpFault p) false else t
  t.coolingJoinCp p

/-- The bay state a reply gives (R19). -/
def bayStateOf (r : SupplyPoll) : BayState :=
  if r.output = .fault then .failed
  else if r.output = .off ∨ r.input = .none then .standby
  else if r.limit.isSome then .degraded
  else .online

/-- The fields whose change a counting bay reports to the ledger (R19). -/
def SupplyPoll.ledgerFields (r : SupplyPoll) : InputClass × Int × Option Nat × Nat :=
  (r.input, r.inlet, r.limit, r.watts)

/-- A power supply's accepted poll reply. -/
def State.bayReply (b : Bay) (r : SupplyPoll) (s : State) : State :=
  let old := s.bayAt b
  let e := { old with state := bayStateOf r, poll := some r, missed := 0, unresponsive := false }
  let t := s.setBayEntry b e .poll
  if e.state = old.state ∧ BayEntry.counts e ∧
      (old.poll.map SupplyPoll.ledgerFields) ≠ some (SupplyPoll.ledgerFields r) then t.recomputeNow
  else t

/-- Whether a rotor is slow at a duty (R20). -/
def rotorSlow (duty maxSpeed speed : Nat) : Bool := 2 * speed < duty * maxSpeed / 100

/-- One rotor judged: its counts move, and its failed flag with them (R20). -/
def State.judgeRotor (t : Tray) (duty maxSpeed : Nat) (k : Fin 3) (speed : Nat) (s : State) : State :=
  let a := s.trayAuxAt t
  if rotorSlow duty maxSpeed speed then
    let n := min (look a.low k + 1) 3
    let u := s.setTrayAux t { a with low := put a.low k n, good := put a.good k 0 }
    if n = 3 then u.setRotor t k true speed else u
  else
    let n := min (look a.good k + 1) 3
    let u := s.setTrayAux t { a with good := put a.good k n, low := put a.low k 0 }
    if n = 3 then u.setRotor t k false speed else u

/-- The state of a qualified tray (R21). -/
def State.trayStateOf (t : Tray) (s : State) : TrayState :=
  let n := countSet (s.trayAt t).failed
  if (s.trayAuxAt t).unresponsive ∨ 2 ≤ n then .failed
  else if n = 1 then .degraded
  else .running

/-- A fan tray's accepted poll reply: every rotor is judged against the applied duty as the reply is
taken, the tray's state re-derived, and a newly failed rotor raises the zone (R20, R21, R60). -/
def State.trayReply (t : Tray) (speeds : Vector Nat 3) (s : State) : State :=
  let old := s.trayAt t
  let maxSpeed := (old.identity.map (·.maxSpeed)).getD 0
  let u := s.setTray t { old with speeds := some speeds }
  let u := u.setTrayAux t { u.trayAuxAt t with missed := 0, unresponsive := false }
  let u := (allFin 3).foldl (fun u k => u.judgeRotor t old.duty maxSpeed k (look speeds k)) u
  let newly := (allFin 3).any fun k => look (u.trayAt t).failed k && !look old.failed k
  let u := if newly then u.raise (zoneOfTray t) else u
  u.setTrayState t (u.trayStateOf t) .poll

/-- A reply the device cannot take (R3, R9): not the form of the position's kind, or a supply reply whose
inlet, output state or input class names no listed value. -/
def takePoll (pos : Position) (r : PollReply) (s : State) : Option State :=
  match pos, r with
  | .slot sl, .blade b => some (s.bladeReply sl b)
  | .cp c, .cp sensor => some (s.cpReply c sensor)
  | .bay b, .supply (some o) (some i) inlet watts limit =>
    if -80 ≤ inlet ∧ inlet ≤ 250 then some (s.bayReply b ⟨o, i, inlet, watts, limit⟩) else none
  | .tray t, .tray a b c => some (s.trayReply t #v[a, b, c])
  | _, _ => none

/-! ## Timed-out polls (R9, R10) -/

/-- A missed count raised by one, saturating. -/
def raiseMissed (n : Nat) : Nat := min (n + 1) 255

/-- A poll of a position timed out. -/
def State.pollLost (pos : Position) (s : State) : State :=
  match pos with
  | .slot sl =>
    let e := s.slotAt sl
    let n := raiseMissed e.missed
    let t := s.setSlot sl { e with missed := n, unresponsive := e.unresponsive || 3 ≤ n }
    if n = 3 then
      let t := t.slotEvent sl .unresponsive
      let t := if SlotEntry.fault e then t else t.condition (slotFault sl) true
      t.coolingUpdate sl
    else t
  | .cp p =>
    let e := s.cpAt p
    let n := raiseMissed e.missed
    let t := s.setCp p { e with missed := n, unresponsive := e.unresponsive || 3 ≤ n }
    if n = 3 then ((t.cpEvent p .unresponsive).condition (cpFault p) true).coolingUpdateCp p else t
  | .bay b =>
    let e := s.bayAt b
    let n := raiseMissed e.missed
    let st := if n = 3 then .failed else e.state
    s.setBayEntry b { e with missed := n, unresponsive := e.unresponsive || 3 ≤ n, state := st }
      .unresponsive
  | .tray tr =>
    let a := s.trayAuxAt tr
    let n := raiseMissed a.missed
    let t := s.setTrayAux tr { a with missed := n, unresponsive := a.unresponsive || 3 ≤ n }
    if n = 3 then t.setTrayState tr (t.trayStateOf tr) .unresponsive else t

/-! ## Settled (R23) -/

/-- Whether a position is settled. -/
def State.positionSettled (pos : Position) (s : State) : Bool :=
  match pos with
  | .slot sl =>
    match (s.slotAt sl).state with
    | .empty => (s.ctlAt pos).judged
    | .qualifying => false
    | _ => true
  | .cp c =>
    match (s.cpAt c).state with
    | .empty => (s.ctlAt pos).judged
    | .qualifying => false
    | _ => true
  | .bay b =>
    match (s.bayAt b).state with
    | .absent => (s.ctlAt pos).judged
    | .qualifying => (s.bayAt b).identity.isSome && 1 ≤ (s.bayAt b).missed
    | _ => true
  | .tray t =>
    match (s.trayAt t).state with
    | .absent => (s.ctlAt pos).judged
    | .qualifying => false
    | _ => true

/-- Every position is settled. -/
def State.settled (s : State) : Bool := allPositions.all s.positionSettled

end Sys2Proof.Machine
end

