-- ==== Sys2Proof/Machine/Roles.lean ====
section
/-! DEFINITION. The gate every request passes (R143, R174) and the role arbiter (chapter 8): roles, epoch,
lease, handover, HEADLESS and holds. -/

namespace Sys2Proof.Machine

/-! ## Rights (R143) -/

/-- The classes of request of the table of R143. -/
inductive Right where
  | read | configure | licence | alarm | hold | claim | keep | release | restart
  deriving DecidableEq, Repr

/-- Whether the class is epoch-checked. -/
def Right.epochChecked : Right → Bool
  | .read | .hold | .claim => false
  | .configure | .licence | .alarm | .keep | .release | .restart => true

/-- The column ACTIVE of the table. -/
def Right.ofActive : Right → Bool
  | .release => false
  | _ => true

/-- The columns STANDBY and DETACHED of the table. -/
def Right.ofOther : Right → Bool
  | .read | .hold | .claim => true
  | _ => false

/-- The column SERVICE of the table. -/
def Right.ofService : Right → Bool
  | .read | .licence | .alarm | .hold | .release | .restart => true
  | .configure | .claim | .keep => false

/-- Whether a link's role holds a right. -/
def State.holdsRight (r : Right) (l : LinkId) (s : State) : Bool :=
  match ctlOfLink l with
  | none => Right.ofService r
  | some c => if (s.standingOf c).role = .active then Right.ofActive r else Right.ofOther r

/-- The results of STALE_EPOCH and NOT_ACTIVE (R172). -/
def State.rolesNow (s : State) : Results := .roles s.arbiter.epoch s.arbiter.holder

/-- The answer to a request whose role lacks the right. -/
def State.rightRefusal (r : Right) (l : LinkId) (s : State) : Status × Results :=
  if (ctlOfLink l).isSome ∧ Right.ofActive r then (.notActive, s.rolesNow) else (.denied, .none)

/-- The first test a request fails, in the order of R174 and then R143; `always` marks GET STATUS, which
is answered during STARTING. -/
def State.refusal (r : Right) (always : Bool) (h : Header) (s : State) : Option (Status × Results) :=
  if (s.linkAt h.link).outstanding.isSome then some (.linkBusy, .none)
  else if s.starting && !always then some (.starting, .none)
  else if !h.sized then some (.invalid, .none)
  else if Right.epochChecked r ∧ h.epoch ≠ s.arbiter.epoch then some (.staleEpoch, s.rolesNow)
  else if s.holdsRight r h.link then none
  else some (s.rightRefusal r h.link)

/-- A request arriving on a link: no frame is taken on a DOWN link; a refused request is answered; a
request that passes goes to its owning block. -/
def State.request (r : Right) (always : Bool) (h : Header) (f : State → State) (s : State) : State :=
  if (s.linkAt h.link).up then
    match s.refusal r always h with
    | some (st, res) => s.respond h.link h.tag st res
    | none => f s
  else s

/-- The request stays outstanding on its link until a later event (R174). -/
def State.keepOutstanding (h : Header) (k : OutstandingKind) (s : State) : State :=
  s.setLink h.link { s.linkAt h.link with outstanding := some ⟨h.tag, k⟩ }

/-! ## Roles and their events (R142, R150, R152, R156) -/

/-- Role of a control link in a ROLE_CHANGE event. -/
def Role.code : Role → Nat
  | .detached => 0
  | .standby => 1
  | .active => 2

/-- Causes of ROLE_CHANGE (R156). -/
inductive RoleCause where
  | claimed | refused | declared | yielded | released | leaseExpired | linkReset | handover
  deriving DecidableEq, Repr

def RoleCause.code : RoleCause → Half
  | .claimed => 1
  | .refused => 2
  | .declared => 3
  | .yielded => 4
  | .released => 5
  | .leaseExpired => 6
  | .linkReset => 7
  | .handover => 8

/-- ROLE_CHANGE with a link's present standing. -/
def State.roleEvent (c : Ctl) (cause : RoleCause) (s : State) : State :=
  let x := s.standingOf c
  s.report .roleChange (Ctl.code c) (u16 (Role.code x.role + if x.ready then 4 else 0))
    (RoleCause.code cause)

/-- A control link takes a standing; a change of role or ready flag is reported (R156). -/
def State.takeStanding (c : Ctl) (x : Standing) (cause : RoleCause) (s : State) : State :=
  if x = s.standingOf c then s else (s.setStanding c x).roleEvent c cause

/-- HEADLESS (R152): no holder, once the settle timer has expired. -/
def State.evalHeadless (s : State) : State :=
  let v := decide (s.arbiter.settle = .expired ∧ s.arbiter.holder = none)
  let t := { s with arbiter := { s.arbiter with headless := v } }
  if v = s.arbiter.headless then t else t.condition headlessPoint v

/-- The role may still be granted: the epoch is below 4294967294 (R142). -/
def State.grantable (s : State) : Bool := s.arbiter.epoch < 4294967294

/-- The lease timer started for the full lease time. -/
def State.startLease (s : State) : State :=
  { s with arbiter := { s.arbiter with leaseTimer := some s.settings.leaseTime } }

/-- A control link becomes ACTIVE and the holder (R144, R150). -/
def State.grantRole (c : Ctl) (cause : RoleCause) (s : State) : State :=
  let t := s.setStanding c { s.standingOf c with role := .active }
  let t := { t with arbiter := { t.arbiter with holder := some c, epoch := t.arbiter.epoch + 1 } }
  t.startLease.roleEvent c cause

/-- Handover to the control link other than the old holder (R150). -/
def State.handover (old : Ctl) (s : State) : State :=
  let c := Ctl.other old
  if (s.standingOf c).role = .standby ∧ (s.standingOf c).ready ∧ (s.linkAt (Ctl.link c)).up ∧
      s.grantable then
    s.grantRole c .handover
  else s

/-- The four causes that end a holding (R149). -/
inductive EndCause where
  | yielded | released | leaseExpired | linkReset
  deriving DecidableEq, Repr

/-- Step 2 of R149: the old holder's new role. -/
def EndCause.newRole : EndCause → Role
  | .yielded | .released => .standby
  | .leaseExpired | .linkReset => .detached

def EndCause.roleCause : EndCause → RoleCause
  | .yielded => .yielded
  | .released => .released
  | .leaseExpired => .leaseExpired
  | .linkReset => .linkReset

def EndCause.abortCause : EndCause → AbortCause
  | .yielded => .yielded
  | .released => .released
  | .leaseExpired => .leaseExpired
  | .linkReset => .linkReset

/-- The end of a holding, its six steps in order (R149). -/
def State.endHolding (cause : EndCause) (s : State) : State :=
  match s.arbiter.holder with
  | none => s
  | some c =>
    let t := { s with arbiter := { s.arbiter with
      leaseTimer := none
      holder := none
      epoch := s.arbiter.epoch + 1 } }
    let t := t.setStanding c ⟨EndCause.newRole cause, false⟩
    let t := if t.zoning.txn.map (·.owner) = some c then t.abortByLoss (EndCause.abortCause cause) else t
    let t := t.roleEvent c (EndCause.roleCause cause)
    (t.handover c).evalHeadless

/-! ## Claims (R144) -/

/-- The results a claim carries. -/
def State.claimResults (s : State) : Results :=
  .claim s.arbiter.epoch s.arbiter.holder s.settings.leaseTime

/-- CLAIM ACTIVE from a control link (R144). DESIGN CHOICE: the ROLE_CHANGE of a granted claim precedes the
change of HEADLESS (assumption 33). -/
def State.claim (c : Ctl) (h : Header) (s : State) : State :=
  match s.arbiter.holder with
  | none =>
    if s.grantable then
      let t := (s.grantRole c .claimed).evalHeadless
      t.respond h.link h.tag .ok t.claimResults
    else s.respond h.link h.tag .full s.claimResults
  | some k =>
    if k = c then
      let t := s.startLease
      t.respond h.link h.tag .ok t.claimResults
    else
      let t := s.takeStanding c { s.standingOf c with role := .standby } .refused
      t.respond h.link h.tag .heldByPeer t.claimResults

/-! ## Holds (R153, R157) -/

def Latches.get (x : Latches) : HoldKind → Bool
  | .zoningFreeze => x.freeze
  | .coolingOverride => x.override

def Latches.set (x : Latches) (k : HoldKind) (v : Bool) : Latches :=
  match k with
  | .zoningFreeze => { x with freeze := v }
  | .coolingOverride => { x with override := v }

def HoldKind.code : HoldKind → Half
  | .zoningFreeze => 1
  | .coolingOverride => 2

/-- Number of a link in a HOLD_CHANGE event. -/
def LinkId.code : LinkId → Half
  | .linkA => 1
  | .linkB => 2
  | .service => 3

/-- A link's latch takes a value: a change is reported, and COOLING_OVERRIDE coming into effect starts
the raise in both zones (R153, R157). -/
def State.setLatch (l : LinkId) (k : HoldKind) (v : Bool) (s : State) : State :=
  if Latches.get (s.latchesOf l) k = v then s
  else
    let was := s.holdEffective k
    let t := s.setLatches l (Latches.set (s.latchesOf l) k v)
    let now := t.holdEffective k
    let t := t.report .holdChange (HoldKind.code k) (LinkId.code l)
      (u16 ((if v then 1 else 0) + if now then 2 else 0))
    if k = .coolingOverride ∧ now ∧ !was then t.raiseBoth else t

/-- The effective value of a kind and the three latches for it. -/
def State.holdResults (k : HoldKind) (s : State) : Results :=
  .hold (s.holdEffective k) (s.arbiter.latches.map fun x => Latches.get x k)

/-! ## Link reset at the arbiter (R154) and the whole link reset (R175) -/

/-- A link reset taken at the arbiter (R153, R154). DESIGN CHOICE: ZONING_FREEZE is cleared before
COOLING_OVERRIDE (assumption 33). -/
def State.arbiterReset (l : LinkId) (s : State) : State :=
  let t := match ctlOfLink l with
    | none => s
    | some c =>
      if s.arbiter.holder = some c then s.endHolding .linkReset
      else s.takeStanding c ⟨.detached, false⟩ .linkReset
  (t.setLatch l .zoningFreeze false).setLatch l .coolingOverride false

/-- A link's queue emptied, its numbering restarted and its attention line released: the event distributor's part
of a link reset (R171). -/
def State.queueReset (l : LinkId) (s : State) : State :=
  s.setQueue l { s.queueAt l with records := [], nextSeq := 0, marker := false, attention := false }

/-- A link reset (R175): the link interface, the arbiter with the zoning engine, then the event queue. A link
gone DOWN (`up` is false) is marked, since it next comes UP again (assumption 40). DESIGN
CHOICE: a RESTART PART or RESET LINK whose response has not been sent is cleared with the link's outstanding
request, and its restart or second reset is not taken (assumption 41). -/
def State.linkReset (l : LinkId) (up : Bool) (s : State) : State :=
  let k : Link :=
    { s.linkAt l with up := up, outstanding := none, cursor := none, discarded := 0, fell := !up }
  ((s.setLink l k).arbiterReset l).queueReset l

/-! ## READ ROLES (R154) -/

def State.rolesSummary (s : State) : RolesSummary where
  epoch := s.arbiter.epoch
  holder := s.arbiter.holder
  standing := s.arbiter.standing
  up := s.links.map (·.up)
  leaseLeft := s.arbiter.leaseTimer.getD 0
  leaseTime := s.settings.leaseTime
  settle := s.arbiter.settle
  headless := s.arbiter.headless
  freeze := s.holdEffective .zoningFreeze
  override := s.holdEffective .coolingOverride
  latches := s.arbiter.latches

end Sys2Proof.Machine
end

