-- ==== Sys2Proof/Machine/Store.lean ====
section
/-! DEFINITION. The store controller (section 10.5): loading the sections during STARTING, and the one
write that may run. -/

namespace Sys2Proof.Machine

/-! ## Loading (R124, R181, and the load rules of each chapter) -/

def allSections : List StoreSection := [.config, .licences, .zoning]

/-- The section loaded next, in the order CONFIG, LICENCES, ZONING. -/
def State.nextSection (s : State) : Option StoreSection :=
  allSections.find? fun x => look s.store.loaded (StoreSection.idx x) = .waiting

def State.setLoaded (x : StoreSection) (v : LoadState) (s : State) : State :=
  { s with store := { s.store with loaded := put s.store.loaded (StoreSection.idx x) v } }

def State.setFault (x : StoreSection) (v : Bool) (s : State) : State :=
  { s with store := { s.store with fault := put s.store.fault (StoreSection.idx x) v } }

/-- A row's admin state as loaded: a changed row takes its reason again (R94, R105; assumption 22). -/
def State.loadAdmin (admin : Vector (Vector Bool 48) 8) (s : State) (p : Port) : State :=
  let v := look (look admin p.slot) p.idx
  if (s.rowAt p).admin = v then s
  else (s.writeRow p { s.rowAt p with admin := v }).relabel p

/-- The loaded CONFIG content given to its blocks (R11, R39, R70, R86, R105, R151). A loaded curve that
differs from the one in force is a change of the fan curve, and derives Tz again for each zone with no
valid sensor (R54). DESIGN CHOICE: the down rows that take their reason again do so in ascending global order
(assumption 43). -/
def State.applyConfig (c : ConfigImage) (s : State) : State :=
  let curve := (s.settings.curveTemp, s.settings.curveDuty)
  let low := s.settings.trayMin
  let t := { s with settings := c.settings }
  let t := allSlots.foldl
    (fun t sl => t.setSlot sl { t.slotAt sl with autoPower := look c.autoPower sl }) t
  let t := allPorts.foldl (State.loadAdmin c.admin) t
  let t := if (t.settings.curveTemp, t.settings.curveDuty) = curve then t else t.deriveSensorless
  if low < t.settings.trayMin then t.raiseBoth else t

/-- A loaded record: VALID, or EXPIRED for a trial with 0 minutes (R91). -/
def loadRecord (r : LicenceRec) : LicenceRec :=
  { r with expired := LicenceRec.isTrial r && r.fields.minutes = 0 }

/-- The loaded licence table (R76, R79, R91). -/
def State.applyLicences (table : List LicenceRec) (s : State) : State :=
  let old := s.pool.capacity
  let t := { s with pool := { s.pool with table := table.map loadRecord } }
  let t := if table.isEmpty then t else State.bump .licence t
  (t.deriveCapacity.evalExpiring).capacityEffect old

/-- The loaded zoning database and generation (R124, R139). No commit has run, so the commit generation
equals the active one (section 7.1). -/
def State.applyZoning (z : ZoningImage) (s : State) : State :=
  let content := z.db.effective
  let changed := content ≠ s.zoning.active
  let t := { s with zoning := { s.zoning with
    defined := z.db
    active := content
    activeGen := z.gen
    commitGen := z.gen } }
  let t := if changed then State.bump .zoneActive t else t
  t.judgeAllKept

/-- The change counts of the defined tables rise by one at the load (R124). -/
def State.bumpDefined (s : State) : State := State.bump .configDefined (State.bump .zoneDefined s)

/-- A section that fails its check, or holds nothing (R181): the defaults stand, its fault flag is set and
it is marked dirty. -/
def State.failSection (x : StoreSection) (s : State) : State :=
  let t := (((s.setLoaded x .failed).setFault x true).markDirty x).handStoreFault
  if x = .zoning then t.bumpDefined else t

/-- The load of a section completes. -/
def State.loadSection (x : StoreSection) (good : Bool) (s : State) : State :=
  let t := s.setLoaded x .good
  if good then
    match x with
    | .config =>
      match s.store.config with
      | some c => t.applyConfig c
      | none => s.failSection x
    | .licences =>
      match s.store.licences with
      | some l => t.applyLicences l
      | none => s.failSection x
    | .zoning =>
      match s.store.zoning with
      | some z => t.bumpDefined.applyZoning z
      | none => s.failSection x
  else s.failSection x

/-! ## Writes (R179) -/

/-- The cyclic order of choice after the section last written. -/
def sectionOrder : Option StoreSection → List StoreSection
  | none => [.config, .licences, .zoning]
  | some .config => [.licences, .zoning, .config]
  | some .licences => [.zoning, .config, .licences]
  | some .zoning => [.config, .licences, .zoning]

/-- The section a write would take: the first dirty one after the one last written. -/
def State.nextWrite (s : State) : Option StoreSection :=
  (sectionOrder s.store.last).find? fun x => look s.store.dirty (StoreSection.idx x)

/-- The content of a section now. -/
def State.sectionContent (x : StoreSection) (s : State) : WriteContent :=
  match x with
  | .config => .config ⟨s.settings, s.slots.map (·.autoPower), s.rows.map fun r => r.map (·.admin)⟩
  | .licences => .licences s.pool.table
  | .zoning => .zoning ⟨s.zoning.defined,
      if s.zoning.phase = .saving then s.zoning.commitGen else s.zoning.activeGen⟩

/-- The section of a content. -/
def WriteContent.section : WriteContent → StoreSection
  | .config _ => .config
  | .licences _ => .licences
  | .zoning _ => .zoning

/-- A write of a section starts: its mark is cleared and its content taken now. -/
def State.startWrite (x : StoreSection) (s : State) : State :=
  { s with store := { s.store with
    dirty := put s.store.dirty (StoreSection.idx x) false
    write := some ⟨s.sectionContent x, s.zoning.phase = .saving⟩ } }

/-- The stored section replaced by a content that checked good. -/
def Store.replace (k : Store) : WriteContent → Store
  | .config c => { k with config := some c }
  | .licences l => { k with licences := some l }
  | .zoning z => { k with zoning := some z }

/-- A write completes: the section's fault flag follows the outcome, and a ZONING write that started in
SAVING ends it (R130). -/
def State.endWrite (w : Write) (good : Bool) (s : State) : State :=
  let x := WriteContent.section w.content
  let k := if good then Store.replace s.store w.content else s.store
  let t := { s with store := { k with write := none, last := some x } }
  let t := (t.setFault x (!good)).handStoreFault
  if x = .zoning ∧ w.forCommit ∧ t.zoning.phase = .saving then t.endSaving good else t

end Sys2Proof.Machine
end

