-- ==== Sys2Proof/Machine/Cursor.lean ====
section
/-! DEFINITION. The readable tables as cursors see them (R176), and the cursor (R177, R178). -/

namespace Sys2Proof.Machine

/-- The number of entries a table has now; a staged table has none while no transaction is open. -/
def State.entryCount (t : Table) (s : State) : Option Nat :=
  match t with
  | .slot => some 10
  | .bay => some 4
  | .tray => some 4
  | .port => some 384
  | .licence => some s.pool.table.length
  | .alarm => some 57
  | .zoneDefined => some 512
  | .zoneStaged => s.zoning.txn.map fun _ => 512
  | .configDefined => some 8
  | .configStaged => s.zoning.txn.map fun _ => 8
  | .zoneActive => some (Content.zoneList s.zoning.active).length

def zoneEntry (db : ZoneDb) (i : Fin 512) : Entry := .zone i.val (look db.zones i)

def configEntry (db : ZoneDb) (i : Fin 8) : Entry :=
  .config i.val (look db.configs i) (db.selection = some i)

/-- SLOT index 0 to 7 is slot 1 to 8, 8 is CP-A and 9 is CP-B. -/
def State.slotEntry (i : Nat) (s : State) : Option Entry :=
  if h : i < 8 then some (.slot (s.slotAt ⟨i, h⟩))
  else if i = 8 then some (.cp (s.cpAt .cpA))
  else if i = 9 then some (.cp (s.cpAt .cpB))
  else none

/-- The entry at an index of a table; R176 lists no cause among what a BAY or TRAY entry gives. -/
def State.entryAt (t : Table) (i : Nat) (s : State) : Option Entry :=
  match t with
  | .slot => s.slotEntry i
  | .bay =>
    if h : i < 4 then some (.bay { s.bayAt ⟨i, h⟩ with cause := none }
      (look s.ledger.readouts.bay ⟨i, h⟩))
    else none
  | .tray => if h : i < 4 then some (.tray { s.trayAt ⟨i, h⟩ with cause := none }) else none
  | .port => (portOfGlobal i).map fun p => .port i (s.rowAt p)
  | .licence => s.pool.table[i]?.map .licence
  | .alarm =>
    if h : i < 57 then some (.alarm i (severity ⟨i, h⟩) (look s.alarms.points ⟨i, h⟩)) else none
  | .zoneDefined => (zoneIndex i).map (zoneEntry s.zoning.defined)
  | .zoneStaged => s.zoning.txn.bind fun t => (zoneIndex i).map (zoneEntry t.db)
  | .configDefined => (configIndex i).map (configEntry s.zoning.defined)
  | .configStaged => s.zoning.txn.bind fun t => (configIndex i).map (configEntry t.db)
  | .zoneActive => (Content.zoneList s.zoning.active)[i]?.map fun z => .active z.1.val z.2

/-- The entry at a signed position; a position below 0 has none. -/
def State.entryAtPos (t : Table) (i : Int) (s : State) : Option Entry :=
  if 0 ≤ i then s.entryAt t i.toNat else none

/-- The position `k` steps on in a direction. -/
def moved (d : Direction) (i : Int) (k : Nat) : Int :=
  match d with
  | .up => i + k
  | .down => i - k

/-- A cursor at a position, its entry prefetched with the table's change count. -/
def State.cursorAt (t : Table) (i : Int) (d : Direction) (s : State) : Cursor where
  table := t
  pos := i
  dir := d
  copy := s.entryAtPos t i
  count := s.countOf t

/-- Entries read at the time of the response from a position on, until the table's end is reached (R178). DESIGN
CHOICE: a position outside the table ends the batch in either direction, so a DOWN cursor above a table that has
shrunk returns none of the lower entries (assumption 45). -/
def State.readOn (t : Table) (d : Direction) : Nat → Int → State → List Entry
  | 0, _, _ => []
  | n + 1, i, s =>
    match s.entryAtPos t i with
    | none => []
    | some e => e :: State.readOn t d n (moved d i 1) s

/-- The entries of a READ CURSOR with their STALE flags: the first is the copy, or the entry at the
position; the further ones are never flagged. -/
def State.cursorRead (c : Cursor) (n : Nat) (s : State) : Option (List (Entry × Bool)) :=
  let stale := decide (s.countOf c.table ≠ c.count)
  let first := match c.copy with
    | some e => some e
    | none => s.entryAtPos c.table c.pos
  first.map fun e =>
    (e, stale) :: (State.readOn c.table c.dir (n - 1) (moved c.dir c.pos 1) s).map (·, false)

end Sys2Proof.Machine
end

