-- ==== Sys2Proof/Machine/Settle.lean ====
section
/-! DEFINITION. The notices and orders blocks hand to one another inside a command, carried out one after
the other once the block that sent them has finished its rule (section 1.4 of the introduction, R99;
assumption 4). -/

namespace Sys2Proof.Machine

/-- The running pass, changed. -/
def State.mapPass (f : RestorePass → RestorePass) (s : State) : State :=
  { s with ledger := { s.ledger with pass := s.ledger.pass.map f } }

/-- The candidate is admitted (step 1 of R48): the pass waits for it to leave POWERING, and ends after
RESTORED when it was the last slot to offer (step 3; assumption 17). -/
def State.admitCandidate (c : Slot) (s : State) : State :=
  let t := (s.mapPass fun p => { p with waiting := some c }).powerUp c .restored
  (t.ledgerEvent 6 (u16 (c.val + 1)) t.headroomField).endPassIfDone

/-- The candidate is refused (step 1 of R48): the next one is offered at once. -/
def State.skipCandidate (c : Slot) (s : State) : State :=
  let t := s.ledgerEvent 7 (u16 (c.val + 1)) s.headroomField
  if t.candidates.isEmpty then t.endPass else t.hand .restore

/-- The next candidate of the running pass is offered admission (R48). -/
def State.restoreStep (s : State) : State :=
  match s.ledger.pass with
  | none => s
  | some p =>
    if p.waiting.isSome then s
    else
      match s.candidates with
      | [] => s.endPass
      | c :: _ =>
        let t := s.mapPass fun p => { p with remaining := put p.remaining c false }
        match t.bladeRefusal c with
        | some _ => t.skipCandidate c
        | none => t.admitCandidate c

/-- One notice or order carried out. -/
def State.runTask (task : Task) (s : State) : State :=
  match task with
  | .headroom => (s.headroomWalk []).serve
  | .shed sl => s.leavePower sl .shed .shed
  | .thermalOff sl => s.leavePower sl .thermalOff .thermal
  | .restore => s.restoreStep

/-- The first slot in POWERING or POWERED whose zone is in SHUTDOWN. -/
def State.hotSlot (s : State) : Option Slot :=
  allSlots.find? fun sl =>
    decide ((s.slotAt sl).state = .powering ∨ (s.slotAt sl).state = .powered) &&
      decide ((s.zoneAt (zoneOfSlot sl)).temp = .shutdown)

/-- Carries out up to `n` thermal-off orders of slots in a SHUTDOWN zone (R64). -/
def State.thermalSweep : Nat → State → State
  | 0, s => s
  | n + 1, s =>
    match s.hotSlot with
    | none => s
    | some sl => State.thermalSweep n (s.leavePower sl .thermalOff .thermal)

/-- The oldest notice is taken, until none is left. At the bound, which no command reaches, the thermal-off
orders are still carried out, so that the law of R64 does not rest on the bound, and the rest is dropped
(assumption 4). -/
def State.drain : Nat → State → State
  | 0, s => { s.thermalSweep 8 with agenda := [] }
  | n + 1, s =>
    match s.agenda with
    | [] => s
    | task :: rest => State.drain n (State.runTask task { s with agenda := rest })

/-- The end of a command: every notice handed on is carried out. -/
def State.settle (s : State) : State := s.drain Config.agendaBound

end Sys2Proof.Machine
end

