-- ==== Sys2Proof/Machine/LedgerCommands.lean ====
section
/-! DEFINITION. The meanings of the power ledger's requests (R32 to R38). -/

namespace Sys2Proof.Machine

/-- The response to a numeric setting: ADJUSTED with the applied value when it was clamped, OK
otherwise. -/
def State.respondSetting (h : Header) (adjusted : Bool) (r : Results) (s : State) : State :=
  if adjusted then s.respond h.link h.tag .adjusted r else s.respond h.link h.tag .ok .none

/-- CLEAR STICKY past the arbiter (R32). -/
def State.clearSticky (h : Header) (s : State) : State :=
  let low := s.ledger.headroomLow && s.ledger.low
  let clamp := s.ledger.clamp && s.ledger.saturated
  ({ s with ledger := { s.ledger with headroomLow := low, clamp := clamp } }).respond h.link h.tag .ok
    (.sticky low clamp)

/-- CLEAR_STICKY. -/
def execClearSticky (h : Header) (s : State) : Host.Outcome State Fault Refusal :=
  done (s.request .configure false h (State.clearSticky h))

/-- READ LEDGER's results (R33). -/
def State.ledgerSummary (s : State) : LedgerSummary where
  policy := s.settings.policy
  scale := s.settings.scale
  warnPercent := s.settings.warnPercent
  graceTime := s.settings.graceTime
  autoRestore := s.settings.autoRestore
  shedPriority := s.settings.shedPriority
  readouts := s.ledger.readouts
  grantCount := (allSlots.map s.grantsOf).sum
  low := s.ledger.low
  headroomLow := s.ledger.headroomLow
  clamp := s.ledger.clamp
  redundancyLost := s.ledger.redundancyLost
  overcommit := s.ledger.overcommit
  graceLeft := s.ledger.graceTimer.getD 0
  restoreLeft := s.ledger.restoreTimer.getD 0
  shedSet := allSlots.filter (look s.ledger.shedSet ·)

/-- READ_LEDGER. -/
def execReadLedger (h : Header) (s : State) : Host.Outcome State Fault Refusal :=
  done (s.request .read false h fun s => s.respond h.link h.tag .ok (.ledger s.ledgerSummary))

/-- SET REDUNDANCY POLICY past the arbiter (R34). -/
def State.setPolicy (h : Header) (policy : Option Policy) (s : State) : State :=
  match policy with
  | none => s.respond h.link h.tag .invalid .none
  | some p =>
    let t := (s.changeSettings { s.settings with policy := p }).recomputeNow
    t.respond h.link h.tag .ok (.value t.ledger.readouts.available)

/-- SET_REDUNDANCY_POLICY. -/
def execSetRedundancyPolicy (h : Header) (policy : Option Policy) (s : State) :
    Host.Outcome State Fault Refusal :=
  done (s.request .configure false h (State.setPolicy h policy)).settle

/-- SET GRACE TIME past the arbiter (R35). -/
def State.setGraceTime (h : Header) (seconds : Nat) (s : State) : State :=
  let v := min seconds 60
  (s.changeSettings { s.settings with graceTime := v }).respondSetting h (v ≠ seconds) (.value v)

/-- SET_GRACE_TIME. -/
def execSetGraceTime (h : Header) (seconds : Nat) (s : State) : Host.Outcome State Fault Refusal :=
  done (s.request .configure false h (State.setGraceTime h seconds))

/-- SET HEADROOM WARNING past the arbiter (R25, R35): the readout set, the margin, LOW and HEADROOM_LOW are
derived again, without a recompute. -/
def State.setWarning (h : Header) (percent : Nat) (s : State) : State :=
  let v := min percent 50
  (s.changeSettings { s.settings with warnPercent := v }).reDerive.respondSetting h (v ≠ percent) (.value v)

/-- SET_HEADROOM_WARNING. -/
def execSetHeadroomWarning (h : Header) (percent : Nat) (s : State) :
    Host.Outcome State Fault Refusal :=
  done (s.request .configure false h (State.setWarning h percent))

/-- SET REPORT SCALE past the arbiter (R25, R36). -/
def State.setScale (h : Header) (scale : Option Scale) (s : State) : State :=
  match scale with
  | none => s.respond h.link h.tag .invalid .none
  | some x =>
    (s.changeSettings { s.settings with scale := x }).reDerive.respond h.link h.tag .ok .none

/-- SET_REPORT_SCALE. -/
def execSetReportScale (h : Header) (scale : Option Scale) (s : State) :
    Host.Outcome State Fault Refusal :=
  done (s.request .configure false h (State.setScale h scale))

/-- SET SHED PRIORITY past the arbiter (R37). -/
def State.setPriority (h : Header) (slots : List Nat) (s : State) : State :=
  match shedPriorityOf slots with
  | none => s.respond h.link h.tag .invalid .none
  | some p => (s.changeSettings { s.settings with shedPriority := p }).respond h.link h.tag .ok .none

/-- SET_SHED_PRIORITY. -/
def execSetShedPriority (h : Header) (slots : List Nat) (s : State) :
    Host.Outcome State Fault Refusal :=
  done (s.request .configure false h (State.setPriority h slots))

/-- What turning auto-restore on or off does to the restore timer and pass (R38). DESIGN CHOICE: a grace time of 0
as in `State.closeOvercommit` (assumption 47). -/
def State.autoRestoreEffect (on : Bool) (s : State) : State :=
  if on then
    if s.ledger.overcommit = .closed ∧ anySet s.ledger.shedSet ∧ s.ledger.pass = none then
      { s with ledger := { s.ledger with restoreTimer := some s.graceMs } }
    else s
  else ({ s with ledger := { s.ledger with restoreTimer := none } }).endPass

/-- SET AUTO RESTORE past the arbiter (R38). -/
def State.setAutoRestore (h : Header) (on : Option Bool) (s : State) : State :=
  match on with
  | none => s.respond h.link h.tag .invalid .none
  | some v =>
    if v = s.settings.autoRestore then s.respond h.link h.tag .ok .none
    else
      ((s.changeSettings { s.settings with autoRestore := v }).autoRestoreEffect v).respond
        h.link h.tag .ok .none

/-- SET_AUTO_RESTORE. -/
def execSetAutoRestore (h : Header) (on : Option Bool) (s : State) :
    Host.Outcome State Fault Refusal :=
  done (s.request .configure false h (State.setAutoRestore h on))

end Sys2Proof.Machine
end

