-- ==== Sys2Proof/Machine/AlarmCommands.lean ====
section
/-! DEFINITION. The meanings of the requests of the alarm unit (R160 to R163) and of the event distributor
(R167 to R171). -/

namespace Sys2Proof.Machine

/-! ## Alarm unit -/

/-- Cause of an acknowledgement: the link that acknowledged (R159). -/
def ackCause : LinkId → Half
  | .linkA => 3
  | .linkB => 4
  | .service => 5

/-- Points an ALL acknowledgement moves. -/
def State.ackable (s : State) : List (Fin 57) :=
  (allFin 57).filter fun n => look s.alarms.points n = .raised || look s.alarms.points n = .resolved

/-- ACKNOWLEDGE ALARM past the arbiter (R160). -/
def State.ackAlarm (h : Header) (target : AlarmTarget) (s : State) : State :=
  match target with
  | .point n =>
    if hn : n < 57 then
      let t := s.acknowledge (ackCause h.link) ⟨n, hn⟩
      t.respond h.link h.tag .ok (.point (look t.alarms.points ⟨n, hn⟩))
    else s.respond h.link h.tag .invalid .none
  | .all =>
    (s.ackable.foldl (fun t n => t.acknowledge (ackCause h.link) n) s).respond h.link h.tag .ok
      (.value s.ackable.length)

/-- ACKNOWLEDGE_ALARM. -/
def execAcknowledgeAlarm (h : Header) (target : AlarmTarget) (s : State) :
    Host.Outcome State Fault Refusal :=
  done (s.request .alarm false h (State.ackAlarm h target))

/-- CUT OFF AUDIBLE past the arbiter (R162). -/
def State.cutOff (h : Header) (s : State) : State :=
  ({ s with alarms := AlarmUnit.derive { s.alarms with cutoff := true } }).respond h.link h.tag .ok .none

/-- CUT_OFF_AUDIBLE. -/
def execCutOffAudible (h : Header) (s : State) : Host.Outcome State Fault Refusal :=
  done (s.request .alarm false h (State.cutOff h))

/-- Points of a severity in a state. -/
def AlarmUnit.countOf (u : AlarmUnit) (v : Severity) (st : PointState) : Nat :=
  (allFin 57).countP fun n => severity n = v && look u.points n = st

/-- RAISED, ACKED and RESOLVED points of a severity. -/
def AlarmUnit.countsOf (u : AlarmUnit) (v : Severity) : Vector Nat 3 :=
  #v[u.countOf v .raised, u.countOf v .acked, u.countOf v .resolved]

/-- READ ALARM SUMMARY's results (R163). -/
def State.alarmSummary (s : State) : AlarmSummary where
  major := s.alarms.major
  minor := s.alarms.minor
  audible := s.alarms.audible
  cutoff := s.alarms.cutoff
  counts := #v[s.alarms.countsOf .critical, s.alarms.countsOf .major, s.alarms.countsOf .minor]
  lowest := ((allFin 57).find? fun n => look s.alarms.points n = .raised).map (·.val)

/-- READ_ALARM_SUMMARY. -/
def execReadAlarmSummary (h : Header) (s : State) : Host.Outcome State Fault Refusal :=
  done (s.request .read false h fun s => s.respond h.link h.tag .ok (.alarms s.alarmSummary))

/-! ## Event distributor -/

/-- The queue after its oldest `n` records were fetched (R167): the marker, which stands last, is gone
with them when nothing is left, and the attention line follows the count (R168). -/
def EventQueue.fetched (q : EventQueue) (n : Nat) : EventQueue :=
  let left := q.records.drop n
  { q with
    records := left
    marker := q.marker && !left.isEmpty
    attention := !left.isEmpty }

/-- FETCH EVENTS past the arbiter (R167). -/
def State.fetch (h : Header) (n : Nat) (s : State) : State :=
  if n = 0 ∨ 16 < n then s.respond h.link h.tag .invalid .none
  else
    let q := s.queueAt h.link
    (s.setQueue h.link (q.fetched n)).respond h.link h.tag .ok
      (.events (q.records.drop n).length (q.records.take n))

/-- FETCH_EVENTS. -/
def execFetchEvents (h : Header) (n : Nat) (s : State) : Host.Outcome State Fault Refusal :=
  done (s.request .read false h (State.fetch h n))

/-- SET EVENT MASK past the arbiter (R169). -/
def State.setMask (h : Header) (mask : ClassMask) (s : State) : State :=
  (s.setQueue h.link { s.queueAt h.link with mask := mask }).respond h.link h.tag .ok (.mask mask)

/-- SET_EVENT_MASK. -/
def execSetEventMask (h : Header) (mask : ClassMask) (s : State) : Host.Outcome State Fault Refusal :=
  done (s.request .read false h (State.setMask h mask))

/-- The depths of the links other than one. -/
def State.otherDepths (l : LinkId) (s : State) : Nat :=
  ((allLinks.filter (· ≠ l)).map fun k => (s.queueAt k).depth).sum

/-- SET QUEUE DEPTH past the arbiter (R170). -/
def State.setDepth (h : Header) (depth : Nat) (s : State) : State :=
  let v := clampNat 8 240 depth
  let q := s.queueAt h.link
  if q.records.length ≠ 0 then s.respond h.link h.tag .notEmpty .none
  else if 256 < v + s.otherDepths h.link then s.respond h.link h.tag .full .none
  else
    (s.setQueue h.link { q with depth := v }).respond h.link h.tag (appliedStatus (v ≠ depth)) (.value v)

/-- SET_QUEUE_DEPTH. -/
def execSetQueueDepth (h : Header) (depth : Nat) (s : State) : Host.Outcome State Fault Refusal :=
  done (s.request .read false h (State.setDepth h depth))

/-- READ EVENT QUEUE's results for a link (R171). -/
def State.queueSummary (l : LinkId) (s : State) : QueueSummary where
  depth := (s.queueAt l).depth
  count := (s.queueAt l).records.length
  mask := (s.queueAt l).mask
  nextSeq := (s.queueAt l).nextSeq
  marker := if (s.queueAt l).marker then (s.queueAt l).records.getLast?.map (·.detailA) else none
  depths := s.queues.map (·.depth)

/-- READ_EVENT_QUEUE. -/
def execReadEventQueue (h : Header) (s : State) : Host.Outcome State Fault Refusal :=
  done (s.request .read false h fun s => s.respond h.link h.tag .ok (.queue (s.queueSummary h.link)))

end Sys2Proof.Machine
end

