-- ==== Sys2Proof/Machine/CoolingCommands.lean ====
section
/-! DEFINITION. The meanings of the cooling controller's requests (R66 to R69). -/

namespace Sys2Proof.Machine

/-- SET FAN CURVE past the arbiter (R66). -/
def State.setCurve (h : Header) (points : List Breakpoint) (s : State) : State :=
  match curveOf points with
  | none => s.respond h.link h.tag .invalid .none
  | some (ts, ds) =>
    let t := s.changeSettings { s.settings with curveTemp := ts, curveDuty := ds }
    t.deriveSensorless.respondSetting h (points.any breakpointAdjusted) (.curve ts ds)

/-- SET_FAN_CURVE. -/
def execSetFanCurve (h : Header) (points : List Breakpoint) (s : State) :
    Host.Outcome State Fault Refusal :=
  done (s.request .configure false h (State.setCurve h points)).settle

/-- SET HYSTERESIS past the arbiter (R67). -/
def State.setHysteresis (h : Header) (value : Int) (s : State) : State :=
  let v := clampInt 0 20 value
  (s.changeSettings { s.settings with hysteresis := v.toNat }).respondSetting h (v ≠ value) (.value v)

/-- SET_HYSTERESIS. -/
def execSetHysteresis (h : Header) (value : Int) (s : State) : Host.Outcome State Fault Refusal :=
  done (s.request .configure false h (State.setHysteresis h value))

/-- SET TRAY MINIMUM past the arbiter (R67): a higher minimum starts the raise in both zones. -/
def State.setMinimum (h : Header) (duty : Int) (s : State) : State :=
  let v := clampInt 20 100 duty
  let t := s.changeSettings { s.settings with trayMin := v.toNat }
  let t := if s.settings.trayMin < v.toNat then t.raiseBoth else t
  t.respondSetting h (v ≠ duty) (.value v)

/-- SET_TRAY_MINIMUM. -/
def execSetTrayMinimum (h : Header) (duty : Int) (s : State) : Host.Outcome State Fault Refusal :=
  done (s.request .configure false h (State.setMinimum h duty))

/-- SET TEMPERATURE THRESHOLDS past the arbiter (R68): zone L is evaluated before zone R, DESIGN CHOICE
(assumption 30). -/
def State.setThresholds (h : Header) (warn crit shutdown : Int) (s : State) : State :=
  let w := clampTemp warn
  let c := clampTemp crit
  let d := clampTemp shutdown
  if w < c ∧ c < d then
    let t := s.changeSettings { s.settings with warnAt := w, critAt := c, shutdownAt := d }
    ((t.evaluateTemp .zoneL).evaluateTemp .zoneR).respondSetting h
      (w ≠ warn || c ≠ crit || d ≠ shutdown) (.thresholds w c d)
  else s.respond h.link h.tag .invalid .none

/-- SET_TEMPERATURE_THRESHOLDS. -/
def execSetTemperatureThresholds (h : Header) (warn crit shutdown : Int) (s : State) :
    Host.Outcome State Fault Refusal :=
  done (s.request .configure false h (State.setThresholds h warn crit shutdown)).settle

/-- READ_COOLING (R69). -/
def execReadCooling (h : Header) (s : State) : Host.Outcome State Fault Refusal :=
  done (s.request .read false h fun s => s.respond h.link h.tag .ok (.cooling s.coolingSummary))

end Sys2Proof.Machine
end

