-- ==== Sys2Proof/Machine/InventoryCommands.lean ====
section
/-! DEFINITION. The meanings of the inventory's requests (R7, R11, R12, R13). -/

namespace Sys2Proof.Machine

/-- The answer of REQUALIFY by the position's state (R7); `none` accepts it. -/
def State.requalifyRefusal (pos : Position) (s : State) : Option Status :=
  match pos with
  | .slot sl =>
    match (s.slotAt sl).state with
    | .rejected => none
    | .empty => some .notFound
    | .qualifying => some .busy
    | _ => some .inUse
  | .cp c =>
    match (s.cpAt c).state with
    | .rejected => none
    | .empty => some .notFound
    | .qualifying => some .busy
    | _ => some .inUse
  | .bay b =>
    match (s.bayAt b).state with
    | .rejected => none
    | .absent => some .notFound
    | .qualifying => some .busy
    | _ => some .inUse
  | .tray t =>
    match (s.trayAt t).state with
    | .rejected => none
    | .absent => some .notFound
    | .qualifying => some .busy
    | _ => some .inUse

/-- REQUALIFY past the arbiter. -/
def State.requalify (h : Header) (name : PositionName) (s : State) : State :=
  match positionOf name with
  | none => s.respond h.link h.tag .invalid .none
  | some pos =>
    match s.requalifyRefusal pos with
    | some st => s.respond h.link h.tag st .none
    | none => (s.enterQualifying pos .request).respond h.link h.tag .ok .none

/-- REQUALIFY. -/
def execRequalify (h : Header) (name : PositionName) (s : State) : Host.Outcome State Fault Refusal :=
  done (s.request .configure false h (State.requalify h name)).settle

/-- SET AUTO POWER past the arbiter (R11). -/
def State.setAutoPower (h : Header) (n : Nat) (on : Bool) (s : State) : State :=
  match slotOfNumber n with
  | none => s.respond h.link h.tag .invalid .none
  | some sl =>
    let t := if (s.slotAt sl).autoPower = on then s
      else (s.setSlot sl { s.slotAt sl with autoPower := on }).markDirty .config
    t.respond h.link h.tag .ok .none

/-- SET_AUTO_POWER. -/
def execSetAutoPower (h : Header) (n : Nat) (on : Bool) (s : State) :
    Host.Outcome State Fault Refusal :=
  done (s.request .configure false h (State.setAutoPower h n on))

/-- The ledger is asked to admit a slot's base power (R12). -/
def State.askAdmission (h : Header) (sl : Slot) (s : State) : State :=
  match s.bladeRefusal sl with
  | some st => s.respond h.link h.tag st .none
  | none => (s.powerUp sl .request).respond h.link h.tag .ok .none

/-- POWER SLOT ON past the arbiter (R12). -/
def State.slotOn (h : Header) (n : Nat) (s : State) : State :=
  match slotOfNumber n with
  | none => s.respond h.link h.tag .invalid .none
  | some sl =>
    match (s.slotAt sl).state with
    | .off | .shed => s.askAdmission h sl
    | .thermalOff =>
      if s.belowCritClear sl then s.askAdmission h sl else s.respond h.link h.tag .busy .none
    | .powering | .powered => s.respond h.link h.tag .ok .none
    | .empty => s.respond h.link h.tag .notFound .none
    | .qualifying | .rejected | .faulted => s.respond h.link h.tag .busy .none

/-- POWER_SLOT_ON. -/
def execPowerSlotOn (h : Header) (n : Nat) (s : State) : Host.Outcome State Fault Refusal :=
  done (s.request .configure false h (State.slotOn h n)).settle

/-- POWER SLOT OFF past the arbiter (R13). -/
def State.slotOff (h : Header) (n : Nat) (s : State) : State :=
  match slotOfNumber n with
  | none => s.respond h.link h.tag .invalid .none
  | some sl =>
    match (s.slotAt sl).state with
    | .powering | .powered => (s.leavePower sl .off .request).respond h.link h.tag .ok .none
    | .shed | .thermalOff | .faulted =>
      (s.setSlotState sl .off .request).respond h.link h.tag .ok .none
    | .off => s.respond h.link h.tag .ok .none
    | .empty => s.respond h.link h.tag .notFound .none
    | .qualifying | .rejected => s.respond h.link h.tag .busy .none

/-- POWER_SLOT_OFF. -/
def execPowerSlotOff (h : Header) (n : Nat) (s : State) : Host.Outcome State Fault Refusal :=
  done (s.request .configure false h (State.slotOff h n)).settle

end Sys2Proof.Machine
end

