-- ==== Sys2Proof/Machine/LicenceCommands.lean ====
section
/-! DEFINITION. The meanings of the licence pool's requests (R74, R75, R84, R86, R89) and of the port
manager's (R100, R101). -/

namespace Sys2Proof.Machine

/-! ## Licences -/

/-- Test 1 of R74. -/
def licenceFormOk (f : LicenceFields) : Bool :=
  f.serial ≠ 0 && 1 ≤ f.units.toNat && f.units.toNat ≤ 384 &&
    ((f.kind = 1 && f.minutes = 0) ||
      (f.kind = 2 && 1 ≤ f.minutes.toNat && f.minutes.toNat ≤ 65535))

/-- The first test of R74 that fails. -/
def State.installRefusal (f : LicenceFields) (s : State) : Option Status :=
  if !licenceFormOk f then some .invalid
  else if f.check ≠ licenceCheck f then some .badCheck
  else if f.bound ≠ s.dev.serial then some .wrongChassis
  else if s.pool.table.any (fun r => r.fields.serial = f.serial) then some .duplicate
  else if 32 ≤ s.pool.table.length then some .full
  else none

/-- Replaces the licence table, marking LICENCES dirty and raising the table's change count. -/
def State.setLicences (t : List LicenceRec) (s : State) : State :=
  State.bump .licence ({ s with pool := { s.pool with table := t } }.markDirty .licences)

/-- INSTALL LICENCE past the arbiter (R74). DESIGN CHOICE: INSTALLED is sent before the availability notice
of R76 is acted on, as R75 and R77 order their events before a reclaim (assumption 29). -/
def State.install (h : Header) (f : LicenceFields) (s : State) : State :=
  match s.installRefusal f with
  | some st => s.respond h.link h.tag st .none
  | none =>
    let n := s.pool.table.length
    let t := (s.setLicences (s.pool.table ++ [⟨f, false⟩])).deriveCapacity.evalExpiring
    let c := t.pool.capacity
    let t := (t.licenceEvent 0 n c).capacityEffect s.pool.capacity
    t.respond h.link h.tag .ok (.values n c)

/-- INSTALL_LICENCE. -/
def execInstallLicence (h : Header) (f : LicenceFields) (s : State) :
    Host.Outcome State Fault Refusal :=
  done (s.request .licence false h (State.install h f)).settle

/-- REMOVE LICENCE past the arbiter (R75). -/
def State.removeLicence (h : Header) (serial : Word) (s : State) : State :=
  if serial = 0 then s.respond h.link h.tag .invalid .none
  else
    match s.pool.table.findIdx? (fun r => r.fields.serial = serial) with
    | none => s.respond h.link h.tag .notFound .none
    | some i =>
      let t := (s.setLicences (s.pool.table.eraseIdx i)).evalExpiring.deriveCapacity
      let c := t.pool.capacity
      let taken := t.unitsInUse - c
      let t := (t.licenceEvent 1 i c).capacityEffect s.pool.capacity
      t.respond h.link h.tag .ok (.values c taken)

/-- REMOVE_LICENCE. -/
def execRemoveLicence (h : Header) (serial : Word) (s : State) : Host.Outcome State Fault Refusal :=
  done (s.request .licence false h (State.removeLicence h serial)).settle

/-- RELEASE PORT UNIT past the arbiter (R84). DESIGN CHOICE: an ENABLED port whose unit state is NONE is answered
NOT_FOUND (assumption 38). -/
def State.releaseUnit (h : Header) (port : Nat) (s : State) : State :=
  match portOfGlobal port with
  | none => s.respond h.link h.tag .invalid .none
  | some p =>
    if (s.rowAt p).unit = .none then s.respond h.link h.tag .notFound .none
    else if (s.rowAt p).admin then s.respond h.link h.tag .inUse .none
    else
      let t := (s.setUnit p .none).stopParkIfEmpty p.slot
      let free := t.pool.capacity - t.unitsInUse
      ((t.licenceEvent 3 port free).availability).respond h.link h.tag .ok (.value free)

/-- RELEASE_PORT_UNIT. -/
def execReleasePortUnit (h : Header) (port : Nat) (s : State) : Host.Outcome State Fault Refusal :=
  done (s.request .configure false h (State.releaseUnit h port)).settle

/-- SET PARK TIME past the arbiter (R86). -/
def State.setParkTime (h : Header) (seconds : Nat) (s : State) : State :=
  let v := min seconds 3600
  (s.changeSettings { s.settings with parkTime := v }).respondSetting h (v ≠ seconds) (.value v)

/-- SET_PARK_TIME. -/
def execSetParkTime (h : Header) (seconds : Nat) (s : State) : Host.Outcome State Fault Refusal :=
  done (s.request .configure false h (State.setParkTime h seconds))

/-- Ports of the chassis in a unit state. -/
def State.countUnits (u : UnitState) (s : State) : Nat :=
  (allSlots.map fun sl => (look s.rows sl).toList.countP (·.unit = u)).sum

/-- READ LICENCE POOL's results (R89). -/
def State.poolSummary (s : State) : PoolSummary where
  capacity := s.pool.capacity
  used := s.unitsInUse
  assigned := s.countUnits .assigned
  parked := s.countUnits .parked
  free := s.pool.capacity - s.unitsInUse
  valid := s.pool.table.countP fun r => !r.expired
  expired := s.pool.table.countP fun r => r.expired
  waiting := s.pool.waiting
  parkedUnits := s.rows.map fun r => r.toList.countP (·.unit = .parked)
  parkLeft := s.aux.map fun a => a.parkTimer.getD 0
  parkTime := s.settings.parkTime
  minutes := s.pool.minutes
  deficit := s.pool.deficit
  expiring := s.pool.expiring
  claims := s.pool.claims.length

/-- READ_LICENCE_POOL. -/
def execReadLicencePool (h : Header) (s : State) : Host.Outcome State Fault Refusal :=
  done (s.request .read false h fun s => s.respond h.link h.tag .ok (.pool s.poolSummary))

/-! ## Port admin (R100, R101) -/

/-- The rows of a range of global ports, ascending. -/
def portRange (first last : Nat) : List Port :=
  (List.range (last + 1 - first)).filterMap fun k => portOfGlobal (first + k)

/-- Sets a row's admin state. -/
def State.setAdmin (p : Port) (v : Bool) (s : State) : State :=
  s.writeRow p { s.rowAt p with admin := v }

/-- One row of ENABLE PORTS. -/
def State.enableRow (p : Port) (s : State) : State := (s.setAdmin p true).evaluate p

/-- One row of DISABLE PORTS. -/
def State.disableRow (p : Port) (s : State) : State :=
  let t := s.setAdmin p false
  if RowCond.live (t.rowAt p).cond then t.goDown p ((t.firstFail p).getD .adminDown) else t.relabel p

/-- Takes every row of a range in turn, with the report of each after it was taken. -/
def State.takeRows (f : Port → State → State) : List Port → State → State × List RowReport
  | [], s => (s, [])
  | p :: ps, s =>
    let t := f p s
    let (u, rs) := State.takeRows f ps t
    (u, ⟨Port.global p, (t.rowAt p).cond⟩ :: rs)

/-- ENABLE PORTS and DISABLE PORTS past the arbiter: the range checks, the rows, and CONFIG marked dirty
once when some admin state changed. -/
def State.adminPorts (h : Header) (first last : Nat) (v : Bool) (f : Port → State → State)
    (s : State) : State :=
  if 383 < last ∨ last < first then s.respond h.link h.tag .invalid .none
  else
    let ps := portRange first last
    let changed := ps.any fun p => (s.rowAt p).admin ≠ v
    let r := State.takeRows f ps s
    let t := if changed then r.1.markDirty .config else r.1
    t.respond h.link h.tag .ok (.rows r.2)

/-- ENABLE_PORTS. -/
def execEnablePorts (h : Header) (first last : Nat) (s : State) : Host.Outcome State Fault Refusal :=
  done (s.request .configure false h (State.adminPorts h first last true State.enableRow)).settle

/-- DISABLE_PORTS. -/
def execDisablePorts (h : Header) (first last : Nat) (s : State) : Host.Outcome State Fault Refusal :=
  done (s.request .configure false h (State.adminPorts h first last false State.disableRow)).settle

end Sys2Proof.Machine
end

