-- ==== Sys2Proof/Machine/Starts.lean ====
section
/-! DEFINITION. The meanings of the two starts, the section loads and the end of STARTING (R180, R181). -/

namespace Sys2Proof.Machine

/-! ## Power-on reset and warm restart (R180) -/

/-- POWER_ON_RESET: every state at its start value; the presence inputs and the stored sections are what
they are, and the chassis serial is what the identity memory gives. -/
def State.powerOn (serial : Option Word) (s : State) : State :=
  { State.reset with
    dev := Device.atStart .powerOn serial
    ctl := s.ctl.map fun c => PosCtl.atStart c.input
    store := Store.atStart s.store.config s.store.licences s.store.zoning
    pending := s.pending }

/-- POWER_ON_RESET. -/
def execPowerOnReset (serial : Option Word) (s : State) : Host.Outcome State Fault Refusal :=
  done (s.powerOn serial)

/-- What a slot keeps over a warm restart: an asserted line, with the blade's held record (R22). -/
def State.heldAux (sl : Slot) (s : State) : SlotAux :=
  let a := s.auxAt sl
  if a.line then
    { SlotAux.atStart with
      line := true
      held := match a.held with
        | some h => some h
        | none => some ⟨(s.bladeOf sl).serial, (s.bladeOf sl).portCount, a.enabled⟩ }
  else SlotAux.atStart

/-- The larger applied duty of a zone's two trays (R71). -/
def State.zoneDuty (z : AirZone) (s : State) : Nat :=
  ((traysOf z).map fun t => (s.trayAt t).duty).foldl max 0

/-- The epoch a warm restart keeps: raised by one when there was a holder (R155). -/
def State.restartEpoch (s : State) : Word :=
  if s.arbiter.holder.isSome then s.arbiter.epoch + 1 else s.arbiter.epoch

/-- A warm restart: outputs held, every other state at its start value. -/
def State.restart (cause : StartCause) (serial : Option Word) (s : State) : State :=
  let t : State := { State.reset with
    dev := Device.atStart cause serial
    ctl := s.ctl.map fun c => PosCtl.atStart c.input
    aux := Vector.ofFn fun sl => s.heldAux sl
    trays := s.trays.map fun e => TrayEntry.atStart e.duty
    cooling := Cooling.atStart (s.zoneDuty .zoneL) (s.zoneDuty .zoneR)
    arbiter := Arbiter.atStart s.restartEpoch
    alarms := { s.alarms with recording := true, recorded := fill 57 false }
    links := s.links.map fun l => Link.atStart l.up
    store := Store.atStart s.store.config s.store.licences s.store.zoning
    pending := s.pending }
  { t.raiseBoth with counts := fill 11 0 }

/-- RESTART PART has been answered and its response waits to be sent on some link. -/
def State.restartRequested (s : State) : Bool :=
  s.links.toList.any fun l => l.outstanding.any fun o => o.kind = .restartPart

/-- WARM_RESTART. DESIGN CHOICE: a restart answered on a link that goes DOWN before the response has been sent
is not taken, since the link reset clears the request (assumption 41). -/
def execWarmRestart (cause : RestartCause) (serial : Option Word) (s : State) :
    Host.Outcome State Fault Refusal :=
  match cause with
  | .line => done (s.restart .restartLine serial)
  | .requested => done (if s.restartRequested then s.restart .restartRequest serial else s)

/-! ## Section loads (R181) -/

/-- SECTION_LOAD_COMPLETE. -/
def execSectionLoadComplete (sec : StoreSection) (good : Bool) (s : State) :
    Host.Outcome State Fault Refusal :=
  done (if s.starting ∧ s.nextSection = some sec then (s.loadSection sec good).settle else s)

/-! ## The end of STARTING (R181) -/

/-- Sections whose load has not completed are taken as failing. -/
def State.failUnloaded (s : State) : State :=
  allSections.foldl
    (fun t x => if look t.store.loaded (StoreSection.idx x) = .waiting then t.failSection x else t) s

/-- Every candidate not adopted is released (R23). -/
def State.releaseAll (s : State) : State :=
  allSlots.foldl
    (fun t sl => if (t.auxAt sl).held.isSome then t.releaseCandidate sl .notAdopted else t) s

/-- The deferred auto-power admissions, in ascending slot order (R11). -/
def State.deferredAdmissions (s : State) : State :=
  allSlots.foldl (fun t sl => if (t.slotAt sl).state = .off then t.autoPower sl else t) s

/-- The device is RUNNING. -/
def State.enterRunning (s : State) : State :=
  { s with dev := { s.dev with phase := .running, startLimit := none } }

/-- The ledger's first computation, the H of the previous recompute taken as 0 (R49); its headroom notice
is acted on at once (R99). -/
def State.firstComputation (s : State) : State :=
  (State.ledgerSteps 0 { s with ledger := s.ledgerStages }).serve

/-- The settle timer starts (R152). -/
def State.startSettle (s : State) : State :=
  { s with arbiter := { s.arbiter with settle := .running Config.settleMs } }

/-- The blocks' work at the end of STARTING, in the order of R181; the headroom notice after the deferred
admissions is sent whether or not H rose (R49). -/
def State.endStarting (s : State) : State :=
  let t := s.failUnloaded.releaseAll.fixGeneration.settleClaims
  let t := t.enterRunning.firstComputation.deferredAdmissions
  ((t.hand .headroom).serve.startSettle).settle.applyRecorded

/-- END_OF_STARTING. -/
def execEndOfStarting (s : State) : Host.Outcome State Fault Refusal :=
  done (if s.starting then s.endStarting else s)

end Sys2Proof.Machine
end

