-- ==== Sys2Proof/Machine/LinkCommands.lean ====
section
/-! DEFINITION. The meanings of the link interface's commands: link states, discarded and unknown frames,
GET STATUS, RESET LINK, RESTART PART and the cursors (chapter 10). -/

namespace Sys2Proof.Machine

/-- LINK_UP (R173): a link that is UP is left as it is. One that comes UP for the first time since a start finds the
records queued meanwhile (R168, R171). Of one that comes UP again R175 says that its queue is empty, and R168 that
it finds its line asserted when records have queued in the meantime: a free value says which holds of those records.
DESIGN CHOICE: what tells the two links apart, and the numbering that restarts with an emptied queue
(assumption 40). -/
def execLinkUp (l : LinkId) (s : State) : Host.Outcome State Fault Refusal :=
  done
    (if (s.linkAt l).up then s
    else
      let t := s.setLink l { s.linkAt l with up := true, fell := false }
      if (s.linkAt l).fell ∧ Config.emptiesWhenUpAgain then t.queueReset l else t)

/-- RESET LINK has been answered on a link and its response waits to be sent. -/
def State.resetRequested (l : LinkId) (s : State) : Bool :=
  (s.linkAt l).outstanding.any fun o => o.kind = .resetLink

/-- LINK_RESET (R175). -/
def execLinkReset (l : LinkId) (cause : LinkResetCause) (s : State) :
    Host.Outcome State Fault Refusal :=
  match cause with
  | .down => done (if (s.linkAt l).up then (s.linkReset l false).settle else s)
  | .responseSent => done (if s.resetRequested l then (s.linkReset l true).settle else s)

/-- FRAME_DISCARDED (R173): the bytes fail a test on an UP link, and the count rises, saturating. -/
def execFrameDiscarded (l : LinkId) (bytes : List Byte) (s : State) :
    Host.Outcome State Fault Refusal :=
  done
    (if (s.linkAt l).up ∧ !frameGood bytes then
      s.setLink l { s.linkAt l with discarded := min ((s.linkAt l).discarded + 1) 65535 }
    else s)

/-- UNKNOWN_REQUEST (R174). -/
def execUnknownRequest (h : Header) (_code : Byte) (s : State) : Host.Outcome State Fault Refusal :=
  done
    (if (s.linkAt h.link).up then
      if (s.linkAt h.link).outstanding.isSome then s.respond h.link h.tag .linkBusy .none
      else s.respond h.link h.tag .unknownRequest .none
    else s)

/-- GET STATUS' results for a link (R182). -/
def State.statusSummary (l : LinkId) (s : State) : StatusSummary where
  phase := s.dev.phase
  cause := s.dev.cause
  uptime := s.dev.uptime
  serial := s.dev.serial
  serialRead := s.dev.serialRead
  epoch := s.arbiter.epoch
  loadedGood := s.store.loaded.map fun x => decide (x = .good)
  dirty := s.store.dirty
  fault := s.store.fault
  writing := s.store.write.map fun w => WriteContent.section w.content
  discarded := (s.linkAt l).discarded
  settled := s.settled

/-- GET_STATUS (R182). -/
def execGetStatus (h : Header) (s : State) : Host.Outcome State Fault Refusal :=
  done (s.request .read true h fun s => s.respond h.link h.tag .ok (.status (s.statusSummary h.link)))

/-- RESET_LINK (R175): answered OK, outstanding until its response has been sent. -/
def execResetLink (h : Header) (s : State) : Host.Outcome State Fault Refusal :=
  done (s.request .read false h fun s => (s.respond h.link h.tag .ok .none).keepOutstanding h .resetLink)

/-- RESTART_PART (R180): answered OK, outstanding until its response has been sent. -/
def execRestartPart (h : Header) (s : State) : Host.Outcome State Fault Refusal :=
  done (s.request .restart false h fun s =>
    (s.respond h.link h.tag .ok .none).keepOutstanding h .restartPart)

/-- SET CURSOR past the arbiter (R177). -/
def State.placeCursor (h : Header) (table : Option Table) (start : Nat) (dir : Option Direction)
    (s : State) : State :=
  match table, dir with
  | some t, some d =>
    match s.entryCount t with
    | none => s.respond h.link h.tag .noTransaction .none
    | some n =>
      if n ≤ start then s.respond h.link h.tag .atEnd .none
      else
        (s.setLink h.link { s.linkAt h.link with cursor := some (s.cursorAt t start d) }).respond
          h.link h.tag .ok (.cursor n (s.countOf t))
  | _, _ => s.respond h.link h.tag .invalid .none

/-- SET_CURSOR. -/
def execSetCursor (h : Header) (table : Option Table) (start : Nat) (dir : Option Direction)
    (s : State) : Host.Outcome State Fault Refusal :=
  done (s.request .read false h (State.placeCursor h table start dir))

/-- READ CURSOR past the arbiter (R178). -/
def State.advanceCursor (h : Header) (n : Nat) (s : State) : State :=
  if n = 0 ∨ 8 < n then s.respond h.link h.tag .invalid .none
  else
    match (s.linkAt h.link).cursor with
    | none => s.respond h.link h.tag .notFound .none
    | some c =>
      if (s.entryCount c.table).isNone then s.respond h.link h.tag .noTransaction .none
      else
        match s.cursorRead c n with
        | none => s.respond h.link h.tag .atEnd .none
        | some es =>
          (s.setLink h.link { s.linkAt h.link with
            cursor := some (s.cursorAt c.table (moved c.dir c.pos n) c.dir) }).respond
            h.link h.tag .ok (.entries es)

/-- READ_CURSOR. -/
def execReadCursor (h : Header) (n : Nat) (s : State) : Host.Outcome State Fault Refusal :=
  done (s.request .read false h (State.advanceCursor h n))

end Sys2Proof.Machine
end

