-- ==== Sys2Proof/Machine/RoleCommands.lean ====
section
/-! DEFINITION. The meanings of the role arbiter's requests (R144 to R154). -/

namespace Sys2Proof.Machine

/-- A request of a control link past the arbiter's checks; the rights of these requests leave no other
link. -/
def State.asControl (h : Header) (f : Ctl → State → State) (s : State) : State :=
  match ctlOfLink h.link with
  | some c => f c s
  | none => s.respond h.link h.tag .denied .none

/-- CLAIM_ACTIVE (R144). -/
def execClaimActive (h : Header) (s : State) : Host.Outcome State Fault Refusal :=
  done (s.request .claim false h (State.asControl h fun c => State.claim c h))

/-- RENEW past the arbiter (R145). -/
def State.renew (h : Header) (s : State) : State :=
  s.startLease.respond h.link h.tag .ok (.renewal s.arbiter.epoch s.settings.leaseTime)

/-- RENEW. -/
def execRenew (h : Header) (s : State) : Host.Outcome State Fault Refusal :=
  done (s.request .keep false h (State.renew h))

/-- DECLARE STANDBY past the arbiter (R146). -/
def State.declare (h : Header) (ready : Bool) (c : Ctl) (s : State) : State :=
  if s.arbiter.holder = some c then s.respond h.link h.tag .inUse .none
  else
    let t := s.takeStanding c ⟨.standby, ready⟩ .declared
    t.respond h.link h.tag .ok t.rolesNow

/-- DECLARE_STANDBY. -/
def execDeclareStandby (h : Header) (ready : Bool) (s : State) : Host.Outcome State Fault Refusal :=
  done (s.request .claim false h (State.asControl h (State.declare h ready)))

/-- YIELD ACTIVE past the arbiter (R147). -/
def State.yieldRole (h : Header) (s : State) : State :=
  let t := s.endHolding .yielded
  t.respond h.link h.tag .ok t.rolesNow

/-- YIELD_ACTIVE. -/
def execYieldActive (h : Header) (s : State) : Host.Outcome State Fault Refusal :=
  done (s.request .keep false h (State.yieldRole h))

/-- RELEASE ACTIVE past the arbiter (R148). -/
def State.releaseRole (h : Header) (s : State) : State :=
  if s.arbiter.holder = none then s.respond h.link h.tag .notActive s.rolesNow
  else
    let t := s.endHolding .released
    t.respond h.link h.tag .ok t.rolesNow

/-- RELEASE_ACTIVE. -/
def execReleaseActive (h : Header) (s : State) : Host.Outcome State Fault Refusal :=
  done (s.request .release false h (State.releaseRole h))

/-- SET LEASE TIME past the arbiter (R151). -/
def State.setLeaseTime (h : Header) (ms : Nat) (s : State) : State :=
  let v := clampNat 500 30000 ms
  (s.changeSettings { s.settings with leaseTime := v }).respondSetting h (v ≠ ms) (.value v)

/-- SET_LEASE_TIME. -/
def execSetLeaseTime (h : Header) (ms : Nat) (s : State) : Host.Outcome State Fault Refusal :=
  done (s.request .configure false h (State.setLeaseTime h ms))

/-- SET HOLD and RELEASE HOLD past the arbiter (R153). -/
def State.holdRequest (h : Header) (kind : Option HoldKind) (v : Bool) (s : State) : State :=
  match kind with
  | none => s.respond h.link h.tag .invalid .none
  | some k =>
    let t := s.setLatch h.link k v
    t.respond h.link h.tag .ok (t.holdResults k)

/-- SET_HOLD. -/
def execSetHold (h : Header) (kind : Option HoldKind) (s : State) :
    Host.Outcome State Fault Refusal :=
  done (s.request .hold false h (State.holdRequest h kind true))

/-- RELEASE_HOLD. -/
def execReleaseHold (h : Header) (kind : Option HoldKind) (s : State) :
    Host.Outcome State Fault Refusal :=
  done (s.request .hold false h (State.holdRequest h kind false))

/-- READ_ROLES (R154). -/
def execReadRoles (h : Header) (s : State) : Host.Outcome State Fault Refusal :=
  done (s.request .read false h fun s => s.respond h.link h.tag .ok (.arbiter s.rolesSummary))

end Sys2Proof.Machine
end

