-- ==== Sys2Proof/Machine/ModuleEvents.lean ====
section
/-! DEFINITION. The meanings of what happens on the presence lines and the module management bus: presence,
replies and reply timeouts (R1 to R10, R14, R15, R96, R97, R132). -/

namespace Sys2Proof.Machine

/-! ## The end of a module transaction (R1) -/

/-- The running transaction ends with its outcome: its asker acts on it while the bus is still held,
unless it treats the transaction as withdrawn (R3), and then the bus is freed. -/
def State.endTxn (r : Running) (f : State → State) (s : State) : State :=
  (if r.withdrawn then s else f s).settle.freeBus

/-- The running transaction, when it is the one named. -/
def State.runningIs (t : Txn) (s : State) : Option Running :=
  match s.bus.running with
  | some r => if r.txn = t then some r else none
  | none => none

/-- The outcome of the named transaction taken; with another one running, or none, there is no such
outcome to take. -/
def State.takeOutcome (t : Txn) (f : Running → State → State) (s : State) : State :=
  match s.runningIs t with
  | some r => s.endTxn r (f r)
  | none => s

/-! ## Presence (R4) -/

/-- PRESENCE_INPUT_CHANGE. -/
def execPresenceInputChange (pos : Position) (present : Bool) (s : State) :
    Host.Outcome State Fault Refusal :=
  let c := s.ctlAt pos
  let run := some (Debounce.mk Config.debounceMs present)
  done
    (if present = c.input then s
    else
      s.setCtl pos { c with
        input := present
        debounce := if c.judged && present = c.taken then none else run })

/-- DEBOUNCE_TIMER_EXPIRY. -/
def execDebounceTimerExpiry (pos : Position) (s : State) : Host.Outcome State Fault Refusal :=
  match (s.ctlAt pos).debounce with
  | some d => done (s.takePresence pos d.candidate).settle
  | none => done s

/-! ## Identity reads (R6) -/

/-- IDENTITY_READ_REPLY. -/
def execIdentityReadReply (pos : Position) (reply : IdentityReply) (s : State) :
    Host.Outcome State Fault Refusal :=
  done (s.takeOutcome (.identity pos) fun _ => State.identityTaken pos reply)

/-- IDENTITY_READ_TIMEOUT: the running transaction is an identity read. -/
def execIdentityReadTimeout (s : State) : Host.Outcome State Fault Refusal :=
  match s.bus.running with
  | some r =>
    match r.txn with
    | .identity pos => done (s.endTxn r (State.identityLost pos))
    | _ => done s
  | none => done s

/-! ## Status polls (R8, R9) -/

/-- STATUS_POLL_REPLY: a reply that cannot be taken leaves its transaction running (R3). -/
def execStatusPollReply (pos : Position) (reply : PollReply) (s : State) :
    Host.Outcome State Fault Refusal :=
  match takePoll pos reply s with
  | some t => done (s.takeOutcome (.poll pos) fun _ _ => t.pollEnded pos)
  | none => done s

/-- STATUS_POLL_TIMEOUT: the running transaction is a status poll. -/
def execStatusPollTimeout (s : State) : Host.Outcome State Fault Refusal :=
  match s.bus.running with
  | some r =>
    match r.txn with
    | .poll pos => done (s.endTxn r fun t => (t.pollLost pos).pollEnded pos)
    | _ => done s
  | none => done s

/-- UNTAKEN_REPLY (R1, R3): the reply is discarded. -/
def execUntakenReply (_pos : Position) (s : State) : Host.Outcome State Fault Refusal := done s

/-! ## Blade commands (R14, R15, R22, R96, R97) -/

/-- POWER_ENABLE_REPLY: the command ends. -/
def execPowerEnableReply (sl : Slot) (s : State) : Host.Outcome State Fault Refusal :=
  done (s.takeOutcome (.powerEnable sl) fun _ t => t)

/-- The slot's record of enabled ports (R22). -/
def State.recordEnabled (p : Port) (v : Bool) (s : State) : State :=
  s.setAux p.slot { s.auxAt p.slot with enabled := put (s.auxAt p.slot).enabled p.idx v }

/-- The blade's acceptance of an enable: an enabling row comes up (R96). -/
def State.enableAccepted (p : Port) (s : State) : State :=
  let t := s.recordEnabled p true
  if (t.rowAt p).cond = .enabling then t.setCond p .up else t

/-- PORT_ENABLE_REPLY. -/
def execPortEnableReply (p : Port) (s : State) : Host.Outcome State Fault Refusal :=
  done (s.takeOutcome (.portCommand p true) fun _ => State.enableAccepted p)

/-- PORT_DISABLE_REPLY: no row changes (R97). -/
def execPortDisableReply (p : Port) (s : State) : Host.Outcome State Fault Refusal :=
  done (s.takeOutcome (.portCommand p false) fun _ => State.recordEnabled p false)

/-- BLADE_COMMAND_TIMEOUT: a class 1 command to the blade of a POWERING or POWERED slot faults it
(R15). -/
def execBladeCommandTimeout (s : State) : Host.Outcome State Fault Refusal :=
  match s.bus.running with
  | some r =>
    match r.txn with
    | .powerEnable sl => done (s.endTxn r fun t => t.leavePower sl .faulted .commandTimeout)
    | .portCommand p _ => done (s.endTxn r fun t => t.leavePower p.slot .faulted .commandTimeout)
    | _ => done s
  | none => done s

/-! ## Pushes (R132) -/

/-- The generation a running push carries, fixed when it started (R2). -/
def Running.gen (r : Running) : Word := (r.image.map (·.gen)).getD 0

/-- PUSH_REPLY. -/
def execPushReply (sl : Slot) (gen : Word) (s : State) : Host.Outcome State Fault Refusal :=
  done (s.takeOutcome (.push sl) fun r => State.pushOutcome sl r.gen (some gen))

/-- PUSH_TIMEOUT: the running transaction is a push. -/
def execPushTimeout (s : State) : Host.Outcome State Fault Refusal :=
  match s.bus.running with
  | some r =>
    match r.txn with
    | .push sl => done (s.endTxn r (State.pushOutcome sl r.gen none))
    | _ => done s
  | none => done s

end Sys2Proof.Machine
end

