-- ==== Sys2Proof/Machine/TimerEvents.lean ====
section
/-! DEFINITION. The meanings of the timer expiries and of the store's writes. An expiry acts while its timer
runs; a stopped timer has none, and the time base queues one only of a timer that has run in full, when nothing
else waits (`State.tick`; assumption 5). -/

namespace Sys2Proof.Machine

/-- POLL_TIMER_EXPIRY (R8). -/
def execPollTimerExpiry (pos : Position) (s : State) : Host.Outcome State Fault Refusal :=
  done (if (s.ctlAt pos).pollTimer.isSome then (s.setPollTimer pos none).queuePoll pos else s)

/-- READY_TIMER_EXPIRY (R14, R15). -/
def execReadyTimerExpiry (sl : Slot) (s : State) : Host.Outcome State Fault Refusal :=
  done
    (if (s.auxAt sl).readyTimer.isSome then
      ((s.setReadyTimer sl none).leavePower sl .faulted .readyTimeout).settle
    else s)

/-- REPUSH_TIMER_EXPIRY (R133). -/
def execRepushTimerExpiry (sl : Slot) (s : State) : Host.Outcome State Fault Refusal :=
  done (if (s.auxAt sl).repushTimer.isSome then (s.setRepush sl none).queuePush sl else s)

/-- GRACE_TIMER_EXPIRY (R44): SHEDDING with cause GRACE_EXPIRED. -/
def execGraceTimerExpiry (s : State) : Host.Outcome State Fault Refusal :=
  done
    (if s.ledger.graceTimer.isSome ∧ s.ledger.overcommit = .grace then (s.startShedding 2).settle else s)

/-- RESTORE_TIMER_EXPIRY (R48). -/
def execRestoreTimerExpiry (s : State) : Host.Outcome State Fault Refusal :=
  done
    (if s.ledger.restoreTimer.isSome then
      ({ s with ledger := { s.ledger with restoreTimer := none } }).startPass.settle
    else s)

/-- UPDATE_TIMER_EXPIRY (R56). -/
def execUpdateTimerExpiry (z : AirZone) (s : State) : Host.Outcome State Fault Refusal :=
  done (if (s.zoneAt z).updateTimer.isSome then s.updateZone z else s)

/-! ## Trial time (R77, R78) -/

/-- A VALID trial record. -/
def LicenceRec.ageing (r : LicenceRec) : Bool := !r.expired && LicenceRec.isTrial r

/-- One record aged by a minute. -/
def LicenceRec.aged (r : LicenceRec) : LicenceRec :=
  if r.ageing then
    let m := r.fields.minutes - 1
    { fields := { r.fields with minutes := m }, expired := m = 0 }
  else r

/-- The indices of the records that expire in an ageing. -/
def expiring (t : List LicenceRec) : List Nat :=
  (List.range t.length).filter fun i =>
    match t[i]? with
    | some r => r.ageing && r.aged.expired
    | none => false

/-- An expiry of the uptime minute timer (R77 to R79). DESIGN CHOICE: LICENCE_EXPIRING is evaluated before the
events EXPIRED and UNIT_RECLAIMED are sent (assumption 33). -/
def State.ageMinute (s : State) : State :=
  let old := s.pool.table
  let gone := expiring old
  let t := { s with pool := { s.pool with
    table := old.map LicenceRec.aged
    minuteTimer := some Config.minuteMs
    minutes := s.pool.minutes + 1 } }
  let t := if old.any LicenceRec.ageing then State.bump .licence t else t
  let t := if gone.isEmpty then t else t.markDirty .licences
  let t := if t.pool.minutes % 60 = 0 ∧ t.pool.table.any LicenceRec.ageing then t.markDirty .licences
    else t
  let t := t.evalExpiring
  if gone.isEmpty then t
  else
    let t := t.deriveCapacity
    (gone.foldl (fun t i => t.licenceEvent 2 i t.pool.capacity) t).capacityEffect s.pool.capacity

/-- UPTIME_MINUTE_TIMER_EXPIRY. -/
def execUptimeMinuteTimerExpiry (s : State) : Host.Outcome State Fault Refusal :=
  done (if s.pool.minuteTimer.isSome then s.ageMinute.settle else s)

/-- PARK_TIMER_EXPIRY (R85). -/
def execParkTimerExpiry (sl : Slot) (s : State) : Host.Outcome State Fault Refusal :=
  done (if (s.auxAt sl).parkTimer.isSome then (s.parkExpire sl).settle else s)

/-! ## Store (R179) -/

/-- STORE_WRITE_START. -/
def execStoreWriteStart (s : State) : Host.Outcome State Fault Refusal :=
  match s.nextWrite with
  | some x => done (if s.store.write = none ∧ !s.starting then s.startWrite x else s)
  | none => done s

/-- STORE_WRITE_COMPLETE. -/
def execStoreWriteComplete (good : Bool) (s : State) : Host.Outcome State Fault Refusal :=
  match s.store.write with
  | some w => done (s.endWrite w good).settle
  | none => done s

/-! ## Arbiter (R149, R152) -/

/-- LEASE_TIMER_EXPIRY. -/
def execLeaseTimerExpiry (s : State) : Host.Outcome State Fault Refusal :=
  done (if s.arbiter.leaseTimer.isSome then s.endHolding .leaseExpired else s)

/-- The settle timer has expired. -/
def State.settleExpired (s : State) : State :=
  ({ s with arbiter := { s.arbiter with settle := .expired } }).evalHeadless

/-- SETTLE_TIMER_EXPIRY. -/
def execSettleTimerExpiry (s : State) : Host.Outcome State Fault Refusal :=
  match s.arbiter.settle with
  | .running _ => done s.settleExpired
  | _ => done s

end Sys2Proof.Machine
end

