-- ==== Sys2Proof/Machine/ZoningCommands.lean ====
section
/-! DEFINITION. The meanings of the zoning engine's requests (R112 to R123, R127) and of the completion of
a validation (R128, R129). -/

namespace Sys2Proof.Machine

/-- OPEN TRANSACTION past the arbiter (R112). -/
def State.openTxn (h : Header) (s : State) : State :=
  if s.zoning.txn.isSome then s.respond h.link h.tag .inUse .none
  else if s.zoning.phase = .saving ∨ s.zoning.phase = .distributing then
    s.respond h.link h.tag .busy .none
  else
    match ctlOfLink h.link with
    | none => s.respond h.link h.tag .denied .none
    | some c =>
      let db := s.zoning.defined
      let t := s.setTxn (some ⟨c, s.arbiter.epoch, 0, db⟩)
      (State.bump .configStaged (State.bump .zoneStaged t)).respond h.link h.tag .ok
        (.opened s.arbiter.epoch db.zoneDefs.length db.memberCount db.configDefs.length)

/-- OPEN_TRANSACTION. -/
def execOpenTransaction (h : Header) (s : State) : Host.Outcome State Fault Refusal :=
  done (s.request .configure false h (State.openTxn h))

/-- CREATE_ZONE (R114). -/
def execCreateZone (h : Header) (name : Name) (s : State) : Host.Outcome State Fault Refusal :=
  done (s.request .configure false h (State.runEdit h (ZoneDb.createZone name)))

/-- RENAME_ZONE (R114). -/
def execRenameZone (h : Header) (zone : Nat) (name : Name) (s : State) :
    Host.Outcome State Fault Refusal :=
  done (s.request .configure false h (State.runEdit h (ZoneDb.renameZone zone name)))

/-- DELETE_ZONE (R115). -/
def execDeleteZone (h : Header) (zone : Nat) (s : State) : Host.Outcome State Fault Refusal :=
  done (s.request .configure false h (State.runEdit h (ZoneDb.deleteZone zone)))

/-- ADD_MEMBER (R116). -/
def execAddMember (h : Header) (zone : Nat) (m : RawMember) (s : State) :
    Host.Outcome State Fault Refusal :=
  done (s.request .configure false h (State.runEdit h (ZoneDb.addMember zone m)))

/-- REMOVE_MEMBER (R117). -/
def execRemoveMember (h : Header) (zone : Nat) (m : RawMember) (s : State) :
    Host.Outcome State Fault Refusal :=
  done (s.request .configure false h (State.runEdit h (ZoneDb.removeMember zone m)))

/-- CREATE_CONFIGURATION (R118). -/
def execCreateConfiguration (h : Header) (name : Name) (zone : Nat) (s : State) :
    Host.Outcome State Fault Refusal :=
  done (s.request .configure false h (State.runEdit h (ZoneDb.createConfig name zone)))

/-- DELETE_CONFIGURATION (R118). -/
def execDeleteConfiguration (h : Header) (cfg : Nat) (s : State) :
    Host.Outcome State Fault Refusal :=
  done (s.request .configure false h (State.runEdit h (ZoneDb.deleteConfig cfg)))

/-- ADD_ZONE_TO_CONFIGURATION (R119). -/
def execAddZoneToConfiguration (h : Header) (cfg zone : Nat) (s : State) :
    Host.Outcome State Fault Refusal :=
  done (s.request .configure false h (State.runEdit h (ZoneDb.addZoneToConfig cfg zone)))

/-- REMOVE_ZONE_FROM_CONFIGURATION (R119). -/
def execRemoveZoneFromConfiguration (h : Header) (cfg zone : Nat) (s : State) :
    Host.Outcome State Fault Refusal :=
  done (s.request .configure false h (State.runEdit h (ZoneDb.removeZoneFromConfig cfg zone)))

/-- SELECT_ACTIVE_CONFIGURATION (R120). -/
def execSelectActiveConfiguration (h : Header) (cfg : Option Nat) (s : State) :
    Host.Outcome State Fault Refusal :=
  done (s.request .configure false h (State.runEdit h (ZoneDb.selectConfig cfg)))

/-- SET_DEFAULT_ACCESS (R120). -/
def execSetDefaultAccess (h : Header) (access : Option Access) (s : State) :
    Host.Outcome State Fault Refusal :=
  done (s.request .configure false h (State.runEdit h (ZoneDb.setAccess access)))

/-- ABORT TRANSACTION past the arbiter (R121). -/
def State.abortTxn (h : Header) (s : State) : State :=
  match s.transactionTests h.link, s.zoning.txn with
  | none, some t => (s.abort .requested).respond h.link h.tag .ok (.value t.edits)
  | some st, _ => s.respond h.link h.tag st .none
  | none, none => s.respond h.link h.tag .noTransaction .none

/-- ABORT_TRANSACTION. -/
def execAbortTransaction (h : Header) (s : State) : Host.Outcome State Fault Refusal :=
  done (s.request .configure false h (State.abortTxn h))

/-- READ_ZONING (R123). -/
def execReadZoning (h : Header) (s : State) : Host.Outcome State Fault Refusal :=
  done (s.request .read false h fun s => s.respond h.link h.tag .ok (.zoning s.zoningSummary))

/-- COMMIT past the arbiter (R127): it stays outstanding until its validation completes. -/
def State.startCommit (h : Header) (s : State) : State :=
  match s.zoning.txn with
  | none => s.respond h.link h.tag .noTransaction .none
  | some t =>
    if ctlOfLink h.link ≠ some t.owner then s.respond h.link h.tag .notOwner .none
    else if s.holdEffective .zoningFreeze then s.respond h.link h.tag .frozen .none
    else
      ({ s with zoning := { s.zoning with
        phase := .validating
        requester := t.owner } }).keepOutstanding h .commit

/-- COMMIT. -/
def execCommit (h : Header) (s : State) : Host.Outcome State Fault Refusal :=
  done (s.request .configure false h (State.startCommit h))

/-- The judgement of a validation that completes (R128, R129). -/
def State.judgeCommit (t : Transaction) (s : State) : State :=
  let l := Ctl.link t.owner
  if s.holdEffective .zoningFreeze then s.failValidation l .frozen .none
  else
    match t.db.emptyZone with
    | some z => s.failValidation l .validationFailed (.validation 1 z.val)
    | none =>
      match s.tooLarge t.db with
      | some sl => s.failValidation l .validationFailed (.validation 2 (sl.val + 1))
      | none => s.passValidation t

/-- VALIDATION_COMPLETE. -/
def execValidationComplete (s : State) : Host.Outcome State Fault Refusal :=
  match s.zoning.txn with
  | some t => done (if s.zoning.phase = .validating then s.judgeCommit t else s)
  | none => done s

end Sys2Proof.Machine
end

