-- ==== Sys2Proof/Machine/Dispatch.lean ====
section
/-! DEFINITION. The dispatch of a command to its meaning: one arm for each row of the table. -/

namespace Sys2Proof.Machine

def exec (i : Instr) (s : State) : Host.Outcome State Fault Refusal :=
  match i with
  | .powerOnReset serial => Sys2Proof.Machine.execPowerOnReset serial s
  | .warmRestart cause serial => Sys2Proof.Machine.execWarmRestart cause serial s
  | .sectionLoadComplete sec good => Sys2Proof.Machine.execSectionLoadComplete sec good s
  | .endOfStarting => Sys2Proof.Machine.execEndOfStarting s
  | .linkUp link => Sys2Proof.Machine.execLinkUp link s
  | .linkReset link cause => Sys2Proof.Machine.execLinkReset link cause s
  | .frameDiscarded link bytes => Sys2Proof.Machine.execFrameDiscarded link bytes s
  | .unknownRequest h code => Sys2Proof.Machine.execUnknownRequest h code s
  | .getStatus h => Sys2Proof.Machine.execGetStatus h s
  | .resetLink h => Sys2Proof.Machine.execResetLink h s
  | .restartPart h => Sys2Proof.Machine.execRestartPart h s
  | .setCursor h table start dir => Sys2Proof.Machine.execSetCursor h table start dir s
  | .readCursor h n => Sys2Proof.Machine.execReadCursor h n s
  | .requalify h pos => Sys2Proof.Machine.execRequalify h pos s
  | .setAutoPower h slot on => Sys2Proof.Machine.execSetAutoPower h slot on s
  | .powerSlotOn h slot => Sys2Proof.Machine.execPowerSlotOn h slot s
  | .powerSlotOff h slot => Sys2Proof.Machine.execPowerSlotOff h slot s
  | .clearSticky h => Sys2Proof.Machine.execClearSticky h s
  | .readLedger h => Sys2Proof.Machine.execReadLedger h s
  | .setRedundancyPolicy h policy => Sys2Proof.Machine.execSetRedundancyPolicy h policy s
  | .setGraceTime h seconds => Sys2Proof.Machine.execSetGraceTime h seconds s
  | .setHeadroomWarning h percent => Sys2Proof.Machine.execSetHeadroomWarning h percent s
  | .setReportScale h scale => Sys2Proof.Machine.execSetReportScale h scale s
  | .setShedPriority h slots => Sys2Proof.Machine.execSetShedPriority h slots s
  | .setAutoRestore h on => Sys2Proof.Machine.execSetAutoRestore h on s
  | .setFanCurve h points => Sys2Proof.Machine.execSetFanCurve h points s
  | .setHysteresis h value => Sys2Proof.Machine.execSetHysteresis h value s
  | .setTrayMinimum h duty => Sys2Proof.Machine.execSetTrayMinimum h duty s
  | .setTemperatureThresholds h warn crit shutdown => Sys2Proof.Machine.execSetTemperatureThresholds h warn crit shutdown s
  | .readCooling h => Sys2Proof.Machine.execReadCooling h s
  | .installLicence h lic => Sys2Proof.Machine.execInstallLicence h lic s
  | .removeLicence h serial => Sys2Proof.Machine.execRemoveLicence h serial s
  | .releasePortUnit h port => Sys2Proof.Machine.execReleasePortUnit h port s
  | .setParkTime h seconds => Sys2Proof.Machine.execSetParkTime h seconds s
  | .readLicencePool h => Sys2Proof.Machine.execReadLicencePool h s
  | .enablePorts h first last => Sys2Proof.Machine.execEnablePorts h first last s
  | .disablePorts h first last => Sys2Proof.Machine.execDisablePorts h first last s
  | .openTransaction h => Sys2Proof.Machine.execOpenTransaction h s
  | .createZone h name => Sys2Proof.Machine.execCreateZone h name s
  | .renameZone h zone name => Sys2Proof.Machine.execRenameZone h zone name s
  | .deleteZone h zone => Sys2Proof.Machine.execDeleteZone h zone s
  | .addMember h zone member => Sys2Proof.Machine.execAddMember h zone member s
  | .removeMember h zone member => Sys2Proof.Machine.execRemoveMember h zone member s
  | .createConfiguration h name zone => Sys2Proof.Machine.execCreateConfiguration h name zone s
  | .deleteConfiguration h cfg => Sys2Proof.Machine.execDeleteConfiguration h cfg s
  | .addZoneToConfiguration h cfg zone => Sys2Proof.Machine.execAddZoneToConfiguration h cfg zone s
  | .removeZoneFromConfiguration h cfg zone => Sys2Proof.Machine.execRemoveZoneFromConfiguration h cfg zone s
  | .selectActiveConfiguration h cfg => Sys2Proof.Machine.execSelectActiveConfiguration h cfg s
  | .setDefaultAccess h access => Sys2Proof.Machine.execSetDefaultAccess h access s
  | .abortTransaction h => Sys2Proof.Machine.execAbortTransaction h s
  | .readZoning h => Sys2Proof.Machine.execReadZoning h s
  | .commit h => Sys2Proof.Machine.execCommit h s
  | .claimActive h => Sys2Proof.Machine.execClaimActive h s
  | .renew h => Sys2Proof.Machine.execRenew h s
  | .declareStandby h ready => Sys2Proof.Machine.execDeclareStandby h ready s
  | .yieldActive h => Sys2Proof.Machine.execYieldActive h s
  | .releaseActive h => Sys2Proof.Machine.execReleaseActive h s
  | .setLeaseTime h ms => Sys2Proof.Machine.execSetLeaseTime h ms s
  | .setHold h kind => Sys2Proof.Machine.execSetHold h kind s
  | .releaseHold h kind => Sys2Proof.Machine.execReleaseHold h kind s
  | .readRoles h => Sys2Proof.Machine.execReadRoles h s
  | .acknowledgeAlarm h target => Sys2Proof.Machine.execAcknowledgeAlarm h target s
  | .cutOffAudible h => Sys2Proof.Machine.execCutOffAudible h s
  | .readAlarmSummary h => Sys2Proof.Machine.execReadAlarmSummary h s
  | .fetchEvents h n => Sys2Proof.Machine.execFetchEvents h n s
  | .setEventMask h mask => Sys2Proof.Machine.execSetEventMask h mask s
  | .setQueueDepth h depth => Sys2Proof.Machine.execSetQueueDepth h depth s
  | .readEventQueue h => Sys2Proof.Machine.execReadEventQueue h s
  | .presenceInputChange pos present => Sys2Proof.Machine.execPresenceInputChange pos present s
  | .debounceTimerExpiry pos => Sys2Proof.Machine.execDebounceTimerExpiry pos s
  | .identityReadReply pos reply => Sys2Proof.Machine.execIdentityReadReply pos reply s
  | .identityReadTimeout => Sys2Proof.Machine.execIdentityReadTimeout s
  | .statusPollReply pos reply => Sys2Proof.Machine.execStatusPollReply pos reply s
  | .statusPollTimeout => Sys2Proof.Machine.execStatusPollTimeout s
  | .pollTimerExpiry pos => Sys2Proof.Machine.execPollTimerExpiry pos s
  | .readyTimerExpiry slot => Sys2Proof.Machine.execReadyTimerExpiry slot s
  | .powerEnableReply slot => Sys2Proof.Machine.execPowerEnableReply slot s
  | .portEnableReply port => Sys2Proof.Machine.execPortEnableReply port s
  | .portDisableReply port => Sys2Proof.Machine.execPortDisableReply port s
  | .bladeCommandTimeout => Sys2Proof.Machine.execBladeCommandTimeout s
  | .untakenReply pos => Sys2Proof.Machine.execUntakenReply pos s
  | .pushReply slot gen => Sys2Proof.Machine.execPushReply slot gen s
  | .pushTimeout => Sys2Proof.Machine.execPushTimeout s
  | .repushTimerExpiry slot => Sys2Proof.Machine.execRepushTimerExpiry slot s
  | .graceTimerExpiry => Sys2Proof.Machine.execGraceTimerExpiry s
  | .restoreTimerExpiry => Sys2Proof.Machine.execRestoreTimerExpiry s
  | .updateTimerExpiry zone => Sys2Proof.Machine.execUpdateTimerExpiry zone s
  | .uptimeMinuteTimerExpiry => Sys2Proof.Machine.execUptimeMinuteTimerExpiry s
  | .parkTimerExpiry slot => Sys2Proof.Machine.execParkTimerExpiry slot s
  | .validationComplete => Sys2Proof.Machine.execValidationComplete s
  | .storeWriteStart => Sys2Proof.Machine.execStoreWriteStart s
  | .storeWriteComplete good => Sys2Proof.Machine.execStoreWriteComplete good s
  | .leaseTimerExpiry => Sys2Proof.Machine.execLeaseTimerExpiry s
  | .settleTimerExpiry => Sys2Proof.Machine.execSettleTimerExpiry s

end Sys2Proof.Machine
end

