-- ==== Sys2Proof/Machine/Tick.lean ====
section
/-! DEFINITION. The device's time base. When no command waits and nothing is due, one millisecond passes: every
running timer counts down. What is due, a timer at 0 among it, joins the queue as the command of the table that
takes it, one at a time (assumption 5). -/

namespace Sys2Proof.Machine

/-- A running timer less one millisecond. -/
def countDown (t : Option Nat) : Option Nat := t.map (· - 1)

/-- A running timer with no time left: its expiry is due. DESIGN CHOICE: a timer started for no time at all, as the
restore timer is with a grace time of 0, is one (assumption 47). -/
def runsOut (t : Option Nat) : Bool := t.any (· = 0)

def PosCtl.counted (c : PosCtl) : PosCtl :=
  { c with
    debounce := c.debounce.map fun d => { d with left := d.left - 1 }
    pollTimer := countDown c.pollTimer }

def SlotAux.counted (a : SlotAux) : SlotAux :=
  { a with
    readyTimer := countDown a.readyTimer
    parkTimer := countDown a.parkTimer
    repushTimer := countDown a.repushTimer }

def ZoneCtl.counted (z : ZoneCtl) : ZoneCtl := { z with updateTimer := countDown z.updateTimer }

def Settle.counted : Settle → Settle
  | .running n => .running (n - 1)
  | x => x

/-- Every timer one millisecond on; the time since the start saturates. -/
def State.counted (s : State) : State :=
  { s with
    dev := { s.dev with uptime := min (s.dev.uptime + 1) 4294967295, startLimit := countDown s.dev.startLimit }
    ctl := s.ctl.map PosCtl.counted
    aux := s.aux.map SlotAux.counted
    bus := { s.bus with running := s.bus.running.map fun r => { r with left := r.left - 1 } }
    ledger := { s.ledger with
      graceTimer := countDown s.ledger.graceTimer
      restoreTimer := countDown s.ledger.restoreTimer }
    cooling := { s.cooling with zones := s.cooling.zones.map ZoneCtl.counted }
    pool := { s.pool with minuteTimer := countDown s.pool.minuteTimer }
    arbiter := { s.arbiter with
      leaseTimer := countDown s.arbiter.leaseTimer
      settle := Settle.counted s.arbiter.settle } }

/-- The timeout of the running transaction. -/
def timeoutOf : Txn → Instr
  | .powerEnable _ | .portCommand _ _ => .bladeCommandTimeout
  | .push _ => .pushTimeout
  | .identity _ => .identityReadTimeout
  | .poll _ => .statusPollTimeout

/-- STARTING may end: every position settled with all sections loaded, or the limit reached (R181). -/
def State.mayEndStarting (s : State) : Bool :=
  s.starting && ((s.settled && s.nextSection = none) || runsOut s.dev.startLimit)

/-- The store controller may start a write (R179). -/
def State.mayWrite (s : State) : Bool := !s.starting && s.store.write = none && s.nextWrite.isSome

/-- The timeout of the running transaction, when due. -/
def State.dueBus (s : State) : List Instr :=
  match s.bus.running with
  | some r => if r.left = 0 then [timeoutOf r.txn] else []
  | none => []

/-- Due expiries of the positions' timers. -/
def State.duePositions (s : State) : List Instr :=
  allPositions.flatMap fun p =>
    (if (s.ctlAt p).debounce.any (·.left = 0) then [Instr.debounceTimerExpiry p] else []) ++
    (if runsOut (s.ctlAt p).pollTimer then [Instr.pollTimerExpiry p] else [])

/-- Due expiries of the slots' timers. -/
def State.dueSlots (s : State) : List Instr :=
  allSlots.flatMap fun sl =>
    (if runsOut (s.auxAt sl).readyTimer then [Instr.readyTimerExpiry sl] else []) ++
    ((if runsOut (s.auxAt sl).repushTimer then [Instr.repushTimerExpiry sl] else []) ++
    (if runsOut (s.auxAt sl).parkTimer then [Instr.parkTimerExpiry sl] else []))

/-- Due expiries of the zones' update timers. -/
def State.dueZones (s : State) : List Instr :=
  allZones.flatMap fun z =>
    if runsOut (s.zoneAt z).updateTimer then [Instr.updateTimerExpiry z] else []

/-- The settle timer's expiry, when due. -/
def State.dueSettle (s : State) : List Instr :=
  match s.arbiter.settle with
  | .running n => if n = 0 then [.settleTimerExpiry] else []
  | _ => []

/-- A command that is due when a condition holds. -/
def dueWhen (b : Bool) (c : Instr) : List Instr := if b then [c] else []

/-- The commands that are due, in the order the model takes them (assumption 5). -/
def State.due (s : State) : List Instr :=
  List.flatten [s.dueBus, s.duePositions, s.dueSlots,
    dueWhen (runsOut s.ledger.graceTimer) .graceTimerExpiry,
    dueWhen (runsOut s.ledger.restoreTimer) .restoreTimerExpiry, s.dueZones,
    dueWhen (runsOut s.pool.minuteTimer) .uptimeMinuteTimerExpiry,
    dueWhen (runsOut s.arbiter.leaseTimer) .leaseTimerExpiry, s.dueSettle,
    dueWhen s.mayEndStarting .endOfStarting, dueWhen s.mayWrite .storeWriteStart]

/-- A step with no command waiting: the first of the commands due joins the queue, or, with none due, one
millisecond passes. Taking one at a time, the state after its effects says anew what is due, so that no expiry of a
timer since stopped or started again is ever queued (R44, R48; assumption 5). -/
def State.tick (s : State) : State :=
  match s.due with
  | c :: _ => { s with pending := [c] }
  | [] => s.counted

end Sys2Proof.Machine
end

