-- ==== Sys2Proof/Safety.lean ====
section
/-! DEFINITION. The laws the manual states of the whole part, as predicates over a state, and what a request
needs to be carried out. -/

namespace Sys2Proof.Machine

/-! ## Requests -/

/-- The header, the right (R143) and whether STARTING answers it (R174), of the commands that are
requests the part knows. -/
def requestOf : Instr → Option (Header × Right × Bool)
  | .getStatus h => some (h, .read, true)
  | .resetLink h | .setCursor h _ _ _ | .readCursor h _ | .readLedger h | .readCooling h
  | .readLicencePool h | .readZoning h | .readRoles h | .readAlarmSummary h | .fetchEvents h _
  | .setEventMask h _ | .setQueueDepth h _ | .readEventQueue h => some (h, .read, false)
  | .restartPart h => some (h, .restart, false)
  | .requalify h _ | .setAutoPower h _ _ | .powerSlotOn h _ | .powerSlotOff h _ | .clearSticky h
  | .setRedundancyPolicy h _ | .setGraceTime h _ | .setHeadroomWarning h _ | .setReportScale h _
  | .setShedPriority h _ | .setAutoRestore h _ | .setFanCurve h _ | .setHysteresis h _
  | .setTrayMinimum h _ | .setTemperatureThresholds h _ _ _ | .releasePortUnit h _ | .setParkTime h _
  | .enablePorts h _ _ | .disablePorts h _ _ | .openTransaction h | .createZone h _ | .renameZone h _ _
  | .deleteZone h _ | .addMember h _ _ | .removeMember h _ _ | .createConfiguration h _ _
  | .deleteConfiguration h _ | .addZoneToConfiguration h _ _ | .removeZoneFromConfiguration h _ _
  | .selectActiveConfiguration h _ | .setDefaultAccess h _ | .abortTransaction h | .commit h
  | .setLeaseTime h _ => some (h, .configure, false)
  | .installLicence h _ | .removeLicence h _ => some (h, .licence, false)
  | .acknowledgeAlarm h _ | .cutOffAudible h => some (h, .alarm, false)
  | .setHold h _ | .releaseHold h _ => some (h, .hold, false)
  | .claimActive h | .declareStandby h _ => some (h, .claim, false)
  | .renew h | .yieldActive h => some (h, .keep, false)
  | .releaseActive h => some (h, .release, false)
  | .powerOnReset _ | .warmRestart _ _ | .sectionLoadComplete _ _ | .endOfStarting | .linkUp _
  | .linkReset _ _ | .frameDiscarded _ _ | .unknownRequest _ _ | .presenceInputChange _ _
  | .debounceTimerExpiry _ | .identityReadReply _ _ | .identityReadTimeout | .statusPollReply _ _
  | .statusPollTimeout | .pollTimerExpiry _ | .readyTimerExpiry _ | .powerEnableReply _
  | .portEnableReply _ | .portDisableReply _ | .bladeCommandTimeout | .untakenReply _ | .pushReply _ _
  | .pushTimeout | .repushTimerExpiry _ | .graceTimerExpiry | .restoreTimerExpiry | .updateTimerExpiry _
  | .uptimeMinuteTimerExpiry | .parkTimerExpiry _ | .validationComplete | .storeWriteStart
  | .storeWriteComplete _ | .leaseTimerExpiry | .settleTimerExpiry => none

/-- A request of a right is carried out: its link is UP with nothing outstanding, the part is RUNNING, the
operands have their size, the epoch is current where it is checked, and the link's role holds the right
(R143, R174). -/
def State.Passes (s : State) (r : Right) (h : Header) : Prop :=
  (s.linkAt h.link).up = true ∧ (s.linkAt h.link).outstanding = none ∧ s.dev.phase = .running ∧
    h.sized = true ∧ (Right.epochChecked r = true → h.epoch = s.arbiter.epoch) ∧
    s.holdsRight r h.link = true

/-- The state after a request is answered with nothing else changed: the response on its link. -/
def State.answered (s : State) (h : Header) (st : Status) (r : Results) : State :=
  let k : Link := { s.linkAt h.link with response := some ⟨h.tag, st, r⟩ }
  { s with links := put s.links (LinkId.idx h.link) k }

/-- The state after a settings request is taken: the settings, CONFIG marked dirty when they changed, and the
response. -/
def State.tookSettings (s : State) (h : Header) (f : Settings) (st : Status) (r : Results) : State :=
  let dirty := if f = s.settings then s.store.dirty else put s.store.dirty 0 true
  let t : State := { s with settings := f, store := { s.store with dirty := dirty } }
  t.answered h st r

/-- An edit reaches a database: the request passes the arbiter, the transaction is open, its owner's link
asks, and no validation runs (tests 1 to 3 of R113). -/
def State.EditReady (s : State) (h : Header) (x : Transaction) : Prop :=
  s.Passes .configure h ∧ s.zoning.txn = some x ∧ h.link = x.owner.link ∧ s.zoning.phase ≠ .validating

/-- The state after an edit that changed a staged table: the staging database, the edit count, the table's
change count and the response (R113). -/
def State.afterEdit (s : State) (h : Header) (x : Transaction) (tb : Table) (db : ZoneDb) (r : Results) :
    State :=
  let y : Transaction := { x with db := db, edits := min (x.edits + 1) 65535 }
  let counts := put s.counts (Table.idx tb) (s.countOf tb + 1)
  let t : State := { s with zoning := { s.zoning with txn := some y }, counts := counts }
  t.answered h .ok r

/-! ## Roles -/

/-- The other control link is ready to be handed the role when `c` loses it (R150); the epoch is the one the
end of the holding leaves. -/
def State.succeeds (s : State) (c : Ctl) : Bool :=
  (s.standingOf c.other).role = .standby && (s.standingOf c.other).ready &&
    (s.linkAt c.other.link).up && s.arbiter.epoch + 1 < 4294967294

/-- What the end of a holding leaves in the arbiter (R149, R150, R152), the old holder taking a role. -/
def State.endedArbiter (s : State) (c : Ctl) (role : Role) : Arbiter :=
  let old := put s.arbiter.standing c.idx ⟨role, false⟩
  if s.succeeds c then
    { s.arbiter with
      standing := put old c.other.idx ⟨.active, (s.standingOf c.other).ready⟩
      holder := some c.other
      epoch := s.arbiter.epoch + 1 + 1
      leaseTimer := some s.settings.leaseTime
      headless := false }
  else
    { s.arbiter with
      standing := old
      holder := none
      epoch := s.arbiter.epoch + 1
      leaseTimer := none
      headless := s.arbiter.settle = .expired }

/-- What the end of a holding leaves in the zoning engine (R122): the link's transaction is gone, and a
validation of it abandoned. -/
def State.endedZoning (s : State) (c : Ctl) : Zoning :=
  if s.zoning.txn.map (·.owner) = some c then
    { s.zoning with
      txn := none
      phase := if s.zoning.phase = .validating then .idle else s.zoning.phase }
  else s.zoning

/-- What the end of a holding changes outside the arbiter and the zoning engine: reports, alarms, change
counts and links only. -/
def State.sameButReports (s t : State) : Prop :=
  ({ t with
    arbiter := s.arbiter
    zoning := s.zoning
    alarms := s.alarms
    queues := s.queues
    counts := s.counts
    links := s.links } : State) = s

/-! ## The laws -/

/-- The law of the role arbiter (R141): a control link is ACTIVE exactly when it is the holder, and the
lease timer runs exactly while there is a holder. With it the law of the transaction (R112, R122): the owner
of an open transaction is the holder. -/
def State.RoleLaw (s : State) : Prop :=
  (∀ c : Ctl, (s.standingOf c).role = .active ↔ s.arbiter.holder = some c) ∧
    s.arbiter.leaseTimer.isSome = s.arbiter.holder.isSome ∧
    ∀ x, s.zoning.txn = some x → s.arbiter.holder = some x.owner

/-- One queue within the law: no more records than its depth, the last place kept for the marker, and the
attention line asserted exactly while the count is above 0 (R166, R168, R170). -/
def EventQueue.Law (q : EventQueue) : Prop :=
  8 ≤ q.depth ∧ q.depth ≤ 240 ∧ q.attention = !q.records.isEmpty ∧
    if q.marker then q.records.length ≤ q.depth ∧ q.records ≠ [] else q.records.length < q.depth

/-- The law of the event queues (R170): each within its depth, the depths within the pool of 256. -/
def State.QueueLaw (s : State) : Prop :=
  (∀ l : LinkId, (s.queueAt l).Law) ∧
    (s.queueAt .linkA).depth + (s.queueAt .linkB).depth + (s.queueAt .service).depth ≤ 256

/-- The law of the links (R174, R175): a link that is DOWN has no cursor and no request outstanding, and, a control
link, is DETACHED and not ready; an UP link is not marked as fallen (assumption 40). -/
def State.LinkLaw (s : State) : Prop :=
  (∀ l : LinkId, (s.linkAt l).up = false → (s.linkAt l).cursor = none ∧ (s.linkAt l).outstanding = none) ∧
    (∀ l : LinkId, (s.linkAt l).fell = true → (s.linkAt l).up = false) ∧
    ∀ c : Ctl, (s.linkAt c.link).up = false → s.standingOf c = ⟨.detached, false⟩

/-- The law of the relay outputs (R161, R162). -/
def State.RelayLaw (s : State) : Prop :=
  (s.alarms.major = true ↔
      ∃ n, severity n ≠ .minor ∧
        (look s.alarms.points n = .raised ∨ look s.alarms.points n = .acked)) ∧
  (s.alarms.minor = true ↔
      ∃ n, severity n = .minor ∧
        (look s.alarms.points n = .raised ∨ look s.alarms.points n = .acked)) ∧
  (s.alarms.audible = true ↔
      (∃ n, severity n ≠ .minor ∧ look s.alarms.points n = .raised) ∧ s.alarms.cutoff = false)

/-- The limits of a database (R107 to R111, R113): names of the stated form and none twice in its kind,
members and listed zones once each and within the limits, listed zones and the selection in use. -/
structure ZoneDb.Limits (db : ZoneDb) : Prop where
  zoneNames : ∀ i j a b, look db.zones i = some a → look db.zones j = some b → a.name = b.name → i = j
  configNames : ∀ i j a b, look db.configs i = some a → look db.configs j = some b →
    a.name = b.name → i = j
  zoneForm : ∀ i a, look db.zones i = some a → nameOk a.name = true
  configForm : ∀ i a, look db.configs i = some a → nameOk a.name = true
  membersOnce : ∀ i a, look db.zones i = some a → a.members.Nodup
  memberLimit : ∀ i a, look db.zones i = some a → a.members.length ≤ 64
  totalLimit : db.memberCount ≤ 4096
  listedOnce : ∀ i c, look db.configs i = some c → c.zones.Nodup
  listLimit : ∀ i c, look db.configs i = some c → 1 ≤ c.zones.length ∧ c.zones.length ≤ 256
  listed : ∀ i c k, look db.configs i = some c → k ∈ c.zones → (look db.zones k).isSome = true
  selected : ∀ i, db.selection = some i → (look db.configs i).isSome = true

/-- Every database of the part is within the limits: the defined one, the staging one, the stored one and the
one a running write took. -/
def State.ZoningLaw (s : State) : Prop :=
  s.zoning.defined.Limits ∧ (∀ t, s.zoning.txn = some t → t.db.Limits) ∧
    (∀ z, s.store.zoning = some z → z.db.Limits) ∧
    (∀ w z, s.store.write = some w → w.content = .zoning z → z.db.Limits)

/-- The law of the scheduler (R1, R2): at most one waiting transaction per addressed object and kind, and
none waits while the bus is free. -/
def State.BusLaw (s : State) : Prop :=
  s.bus.waiting.Pairwise (fun t u => Txn.sameObject t u = false) ∧
    (s.bus.running = none → s.bus.waiting = [])

/-- The settings within their stated ranges (R35, R37, R66 to R68, R86, R151). -/
def Settings.Law (f : Settings) : Prop :=
  f.graceTime ≤ 60 ∧ f.warnPercent ≤ 50 ∧ f.parkTime ≤ 3600 ∧
  (500 ≤ f.leaseTime ∧ f.leaseTime ≤ 30000) ∧ f.hysteresis ≤ 20 ∧
  (20 ≤ f.trayMin ∧ f.trayMin ≤ 100) ∧ f.shedPriority.toList.Nodup ∧
  (-80 ≤ f.warnAt ∧ f.warnAt < f.critAt ∧ f.critAt < f.shutdownAt ∧ f.shutdownAt ≤ 250) ∧
  strictlyAscending f.curveTemp.toList = true ∧ notDecreasing f.curveDuty.toList = true ∧
  (∀ i, -80 ≤ look f.curveTemp i ∧ look f.curveTemp i ≤ 250) ∧ (∀ i, look f.curveDuty i ≤ 100)

/-- The law of the settings: those in force, those of the stored CONFIG section, and those a running write
took, lie within their ranges. -/
def State.SettingsLaw (s : State) : Prop :=
  s.settings.Law ∧ (∀ c, s.store.config = some c → c.settings.Law) ∧
    (∀ w c, s.store.write = some w → w.content = .config c → c.settings.Law)

/-- The law of the ledger (R43), with what makes it hold of every state: outside STARTING and outside an
open overcommit, headroom is at least 0 unless no port blade is in POWERING or POWERED; the charged slots
are those in POWERING or POWERED (section 2.1), and the shed set those in SHED (R47); a held record stands
only in STARTING, for a blade not yet adopted (R23); the grace timer runs exactly in GRACE (R43, R44), and the
restore timer only with no overcommit open and a slot in the shed set (R43, R46, R47). -/
def State.LedgerLaw (s : State) : Prop :=
  (s.dev.phase = .running → s.ledger.overcommit = .closed →
    0 ≤ s.ledger.headroom ∨
      ∀ sl, (s.slotAt sl).state ≠ .powering ∧ (s.slotAt sl).state ≠ .powered) ∧
  (∀ sl, look s.ledger.charged sl = true ↔
    ((s.slotAt sl).state = .powering ∨ (s.slotAt sl).state = .powered)) ∧
  (∀ sl, look s.ledger.shedSet sl = true ↔ (s.slotAt sl).state = .shed) ∧
  (∀ sl, (s.auxAt sl).held ≠ none →
    s.dev.phase = .starting ∧ ((s.slotAt sl).state = .empty ∨ (s.slotAt sl).state = .qualifying)) ∧
  (s.ledger.graceTimer.isSome = true ↔ s.ledger.overcommit = .grace) ∧
  (s.ledger.restoreTimer ≠ none → s.ledger.overcommit = .closed ∧ anySet s.ledger.shedSet = true)

/-- The law of the pool (R87): units in use never exceed the capacity, which is the smaller of 384 and the
sum of the units of the VALID licences (R76); the claim list names each port once, in ascending global
order (R90). -/
def State.PoolLaw (s : State) : Prop :=
  s.unitsInUse ≤ s.pool.capacity ∧ s.pool.capacity = capacityFrom s.pool.table ∧
    s.pool.claims.Pairwise fun p q => Port.global p < Port.global q

/-- The law of zone shutdown (R64), which the model keeps in STARTING too: no port blade is in POWERING or
POWERED in a zone whose temperature state is SHUTDOWN. -/
def State.ShutdownLaw (s : State) : Prop :=
  ∀ sl, (s.slotAt sl).state = .powering ∨ (s.slotAt sl).state = .powered →
    (s.zoneAt (zoneOfSlot sl)).temp ≠ .shutdown

/-- The law of one slot in the port table, with what makes it hold of every state: the port manager's two
inputs stand as the inventory and the zoning engine have them, a slot that is not POWERED has no enforcement
(R135), and it is PREVIOUS only while a distribution waits for it (R98, R131, R134). -/
structure State.SlotInputs (s : State) (sl : Slot) : Prop where
  blade : (s.auxAt sl).powered = true ↔ (s.slotAt sl).state = .powered
  admits : (s.auxAt sl).admits = true ↔
    (s.slotAt sl).enforcement = .current ∨ (s.slotAt sl).enforcement = .previous
  off : (s.slotAt sl).state ≠ .powered → (s.slotAt sl).enforcement = .none
  inFlight : (s.slotAt sl).enforcement = .previous →
    look s.zoning.waitSet sl = true ∧ s.zoning.phase = .distributing

/-- One row within the law of the port table (R96): an up or enabling row has its slot POWERED and admitting,
its admin state ENABLED, a BASE port or an ASSIGNED unit, and its grant. With it: a row has a grant exactly
while it is up, enabling or adopted, its condition is NONEXISTENT exactly as its class is, an adopted row
stands in STARTING at a POWERED slot, and none is up or enabling in STARTING. -/
structure State.RowLaw (s : State) (p : Port) : Prop where
  up : (s.rowAt p).cond = .up ∨ (s.rowAt p).cond = .enabling →
    s.dev.phase = .running ∧ (s.slotAt p.slot).state = .powered ∧ (s.auxAt p.slot).admits = true ∧
      (s.rowAt p).admin = true ∧
      ((s.rowAt p).cls = .base ∨ ((s.rowAt p).cls = .pool ∧ (s.rowAt p).unit = .assigned))
  grant : (s.rowAt p).grant = RowCond.live (s.rowAt p).cond
  kind : (s.rowAt p).cond = .nonexistent ↔ (s.rowAt p).cls = .nonexistent
  adopted : (s.rowAt p).cond = .adopted →
    s.dev.phase = .starting ∧ (s.slotAt p.slot).state = .powered

/-- The law of the port table (R96): every slot's inputs and every row within it, and an open transaction
only in IDLE or VALIDATING (R112, R129), so that no distribution is cut off. -/
def State.PortLaw (s : State) : Prop :=
  (∀ sl, s.SlotInputs sl) ∧ (∀ p, s.RowLaw p) ∧
    (s.zoning.txn ≠ none → s.zoning.phase = .idle ∨ s.zoning.phase = .validating)

/-- The law of the cooling controller (R60): every applied duty lies between the tray minimum and 100, and
is 100 while COOLING_OVERRIDE is in effect or some tray is not cooling; no curve demand is above 100. -/
def State.CoolingLaw (s : State) : Prop :=
  (∀ tr, s.settings.trayMin ≤ (s.trayAt tr).duty ∧ (s.trayAt tr).duty ≤ 100) ∧
  (∀ z, (s.zoneAt z).demand ≤ 100) ∧
  (s.holdEffective .coolingOverride = true ∨
      (∃ tr, (s.trayAt tr).state = .absent ∨ (s.trayAt tr).state = .rejected ∨
        (s.trayAt tr).state = .failed) →
    ∀ tr, (s.trayAt tr).duty = 100)

/-- No notice or order waits between commands (assumption 4). -/
def State.Quiet (s : State) : Prop := s.agenda = []

/-! ## What notices and orders between blocks leave alone -/

/-- What a slot keeps. -/
def SlotEntry.lasting (e : SlotEntry) : SlotEntry where
  state := .empty
  cause := none
  unresponsive := e.unresponsive
  missed := e.missed
  identity := e.identity
  poll := e.poll
  autoPower := e.autoPower
  enforcement := .none
  attempt := 0

def SlotAux.lasting (a : SlotAux) : SlotAux := { SlotAux.atStart with held := a.held, matched := a.matched }

/-- What a tray keeps: everything but its applied duty. -/
def TrayEntry.lasting (e : TrayEntry) : TrayEntry := { e with duty := 0 }

/-- What a port row keeps: admin state, licence class, and the unit of a disabled row. -/
def Row.lasting (r : Row) : Row where
  admin := r.admin
  cls := r.cls
  unit := if r.admin then .none else r.unit
  grant := false
  cond := .nonexistent

def EventQueue.lasting (q : EventQueue) : EventQueue := EventQueue.atStart q.depth q.mask

/-- The state with everything blanked that a notice or order handed from one block to another may change:
slot states and power, enforcement, the bus, the ledger, the airflow zones, applied duties, row
conditions, grants and enabled rows' units, the wait set and the end of a distribution, alarms, event
records and change counts. What two states with equal `lasting` share is every setting, identity and poll
record, presence, role and hold, database, licence, stored section, link, admin state and mask. -/
def State.lasting (s : State) : State :=
  { s with
    slots := s.slots.map SlotEntry.lasting
    aux := s.aux.map SlotAux.lasting
    trays := s.trays.map TrayEntry.lasting
    bus := ⟨[], none⟩
    ledger := Ledger.atStart
    cooling := Cooling.atStart 0 0
    pool := { s.pool with waiting := 0, deficit := false }
    rows := s.rows.map fun r => r.map Row.lasting
    zoning := { s.zoning with phase := .idle, waitSet := fill 8 false }
    alarms := AlarmUnit.atPowerOn
    queues := s.queues.map EventQueue.lasting
    counts := fill 11 0
    agenda := [] }

end Sys2Proof.Machine
end

