-- ==== Sys2Proof/Certificates/Slice0/Obligations.lean ====
section
/-! DEFINITION. The statements for the provers, one `def Obligations.<Name> : Prop` each. -/

section
open Sys2Proof Sys2Proof.Machine

/-- A transaction asked of the scheduler in a step from `s` to `t`: it waits, or a bus that was free has
started it. -/
def Asked (s t : State) (x : Txn) : Prop :=
  x ∈ t.bus.waiting ∨ (s.bus.running = none ∧ t.bus.running.map (·.txn) = some x)

/-! ## The machine as a whole -/

/-- The command at the front of the queue is run on the state with the queue's rest. -/
def Obligations.StepTakesTheFrontCommand : Prop :=
  ∀ (s : State) (c : Instr) (rest : List Instr), s.pending = c :: rest →
    step s = exec c { s with pending := rest }

/-- The running transaction is one of `f` and its reply timeout has run out (R1). -/
def TimedOut (s : State) (f : Txn → Prop) : Prop := ∃ r, s.bus.running = some r ∧ f r.txn ∧ r.left = 0

/-- What is due: the expiry of each running timer with no time left, the timeout of the running transaction, the
end of STARTING (R181), and the start of a write that may start (R179). -/
def DueNow (s : State) : Instr → Prop
  | .debounceTimerExpiry p => ∃ d, (s.ctlAt p).debounce = some d ∧ d.left = 0
  | .pollTimerExpiry p => (s.ctlAt p).pollTimer = some 0
  | .readyTimerExpiry sl => (s.auxAt sl).readyTimer = some 0
  | .repushTimerExpiry sl => (s.auxAt sl).repushTimer = some 0
  | .parkTimerExpiry sl => (s.auxAt sl).parkTimer = some 0
  | .graceTimerExpiry => s.ledger.graceTimer = some 0
  | .restoreTimerExpiry => s.ledger.restoreTimer = some 0
  | .updateTimerExpiry z => (s.zoneAt z).updateTimer = some 0
  | .uptimeMinuteTimerExpiry => s.pool.minuteTimer = some 0
  | .leaseTimerExpiry => s.arbiter.leaseTimer = some 0
  | .settleTimerExpiry => s.arbiter.settle = .running 0
  | .bladeCommandTimeout =>
    TimedOut s fun x => (∃ sl, x = .powerEnable sl) ∨ ∃ p v, x = .portCommand p v
  | .pushTimeout => TimedOut s fun x => ∃ sl, x = .push sl
  | .identityReadTimeout => TimedOut s fun x => ∃ pos, x = .identity pos
  | .statusPollTimeout => TimedOut s fun x => ∃ pos, x = .poll pos
  | .endOfStarting => s.dev.phase = .starting ∧
    ((s.settled = true ∧ s.nextSection = none) ∨ s.dev.startLimit = some 0)
  | .storeWriteStart => s.dev.phase = .running ∧ s.store.write = none ∧ s.nextWrite ≠ none
  | _ => False

/-- With no command waiting, the first of the commands due, none of them a request, joins the queue, and nothing
else changes; with none due one millisecond passes: every running timer counts down, and nothing else changes. The
model's choices: assumptions 5 and 47. -/
def Obligations.IdleStepQueuesWhatIsDueOrPassesTime : Prop :=
  ∀ s : State, s.pending = [] →
  (∀ c, c ∈ s.due ↔ DueNow s c) ∧ s.due.Nodup ∧
  (∀ c rest, s.due = c :: rest → requestOf c = none ∧ step s = .next { s with pending := [c] }) ∧
  ((∀ c, ¬DueNow s c) → ∃ t, step s = .next t ∧
    t.dev = { s.dev with
      uptime := min (s.dev.uptime + 1) 4294967295, startLimit := s.dev.startLimit.map (· - 1) } ∧
    (∀ p, t.ctlAt p = { s.ctlAt p with
      debounce := (s.ctlAt p).debounce.map fun d => { d with left := d.left - 1 }
      pollTimer := (s.ctlAt p).pollTimer.map (· - 1) }) ∧
    (∀ sl, t.auxAt sl = { s.auxAt sl with
      readyTimer := (s.auxAt sl).readyTimer.map (· - 1)
      parkTimer := (s.auxAt sl).parkTimer.map (· - 1)
      repushTimer := (s.auxAt sl).repushTimer.map (· - 1) }) ∧
    (∀ z, t.zoneAt z = { s.zoneAt z with updateTimer := (s.zoneAt z).updateTimer.map (· - 1) }) ∧
    t.cooling.slots = s.cooling.slots ∧ t.cooling.cps = s.cooling.cps ∧
    t.bus = { s.bus with running := s.bus.running.map fun r => { r with left := r.left - 1 } } ∧
    t.ledger = { s.ledger with
      graceTimer := s.ledger.graceTimer.map (· - 1), restoreTimer := s.ledger.restoreTimer.map (· - 1) } ∧
    t.pool = { s.pool with minuteTimer := s.pool.minuteTimer.map (· - 1) } ∧
    t.arbiter.leaseTimer = s.arbiter.leaseTimer.map (· - 1) ∧
    (∀ n, s.arbiter.settle = .running n → t.arbiter.settle = .running (n - 1)) ∧
    ((∀ n, s.arbiter.settle ≠ .running n) → t.arbiter.settle = s.arbiter.settle) ∧
    ({ t.arbiter with leaseTimer := s.arbiter.leaseTimer, settle := s.arbiter.settle } : Arbiter) =
      s.arbiter ∧
    ({ t with
      dev := s.dev, ctl := s.ctl, aux := s.aux, cooling := s.cooling, bus := s.bus, ledger := s.ledger
      pool := s.pool, arbiter := s.arbiter } : State) = s)

/-- Every step answers a next state, and leaves no notice waiting when none waited before. Model's
choices: assumptions 4, 8 and 25. -/
def Obligations.EveryStepCompletes : Prop :=
  ∀ s : State, s.agenda = [] → ∃ t, step s = .next t ∧ t.agenda = []

/-- The state after reset meets every law stated below. Model's choices: assumptions 1, 3, 40 and 42. -/
def Obligations.ResetMeetsTheLaws : Prop :=
  State.reset.RoleLaw ∧ State.reset.QueueLaw ∧ State.reset.LinkLaw ∧ State.reset.RelayLaw ∧
    State.reset.BusLaw ∧ State.reset.SettingsLaw ∧ State.reset.ZoningLaw ∧ State.reset.LedgerLaw ∧
    State.reset.PoolLaw ∧ State.reset.CoolingLaw ∧ State.reset.ShutdownLaw ∧ State.reset.PortLaw ∧
    State.reset.agenda = []

/-- The law of the role arbiter, and with it the law of the transaction (R112, R122), is kept by every
step. -/
def Obligations.RoleLawIsKept : Prop :=
  ∀ s t : State, s.RoleLaw → step s = .next t → t.RoleLaw

/-- The law of the event queues is kept by every step, and so is the law of the links. Model's choice: assumption
40 (the mark of a fallen link). -/
def Obligations.QueueLawIsKept : Prop :=
  ∀ s t : State, step s = .next t → (s.QueueLaw → t.QueueLaw) ∧ (s.LinkLaw → t.LinkLaw)

/-- The law of the relay outputs is kept by every step. -/
def Obligations.RelayLawIsKept : Prop :=
  ∀ s t : State, s.RelayLaw → step s = .next t → t.RelayLaw

/-- The law of the module bus scheduler is kept by every step. -/
def Obligations.BusLawIsKept : Prop :=
  ∀ s t : State, s.BusLaw → step s = .next t → t.BusLaw

/-- Every step keeps the settings within their ranges, and with them the law of the cooling controller. -/
def Obligations.SettingsAndDutiesStayInRange : Prop :=
  ∀ s t : State, s.SettingsLaw → step s = .next t →
    t.SettingsLaw ∧ (s.CoolingLaw → t.CoolingLaw)

/-- The law of the power ledger is kept by every step, and so is the law of zone shutdown (R64) when no order
waits before it. Model's choices: assumption 4. -/
def Obligations.LedgerLawIsKept : Prop :=
  ∀ s t : State, step s = .next t →
    (s.LedgerLaw → t.LedgerLaw) ∧ (s.agenda = [] → s.ShutdownLaw → t.ShutdownLaw)

/-- The law of the licence pool is kept by every step, and so is the law of the port table (R96), for which
the law of the ledger keeps a held record away from a POWERED slot. -/
def Obligations.PoolLawIsKept : Prop :=
  ∀ s t : State, step s = .next t →
    (s.PoolLaw → t.PoolLaw) ∧ (s.LedgerLaw → s.PortLaw → t.PortLaw)

/-- Every zoning database stays within its limits through every step. -/
def Obligations.DatabasesStayWithinLimits : Prop :=
  ∀ s t : State, s.ZoningLaw → step s = .next t → t.ZoningLaw

/-! ## Requests in general -/

/-- A request that fails a test is answered and changes nothing else; a DOWN link takes no frame. Model's
choices: assumptions 2 and 8 (a DOWN link takes no frame). -/
def Obligations.RefusedRequestOnlyAnswers : Prop :=
  ∀ (i : Instr) (h : Header) (r : Right) (always : Bool) (s : State),
    requestOf i = some (h, r, always) → s.agenda = [] →
    ((s.linkAt h.link).up = true → ∀ st res, s.refusal r always h = some (st, res) →
      exec i s = .next (s.answered h st res)) ∧
    ((s.linkAt h.link).up = false → exec i s = .next s)

/-- The tests of a request in their order, and the table of rights. -/
def Obligations.RequestTestsFollowTheTables : Prop :=
  ∀ (s : State) (h : Header) (r : Right) (always : Bool),
    ((s.linkAt h.link).outstanding ≠ none → s.refusal r always h = some (.linkBusy, .none)) ∧
    ((s.linkAt h.link).outstanding = none → s.dev.phase = .starting → always = false →
      s.refusal r always h = some (.starting, .none)) ∧
    ((s.linkAt h.link).outstanding = none → (s.dev.phase = .running ∨ always = true) →
      (h.sized = false → s.refusal r always h = some (.invalid, .none)) ∧
      (h.sized = true → r ∉ [Right.read, .hold, .claim] → h.epoch ≠ s.arbiter.epoch →
        s.refusal r always h = some (.staleEpoch, .roles s.arbiter.epoch s.arbiter.holder)) ∧
      (h.sized = true → (r ∉ [Right.read, .hold, .claim] → h.epoch = s.arbiter.epoch) →
        (s.holdsRight r h.link = true → s.refusal r always h = none) ∧
        (s.holdsRight r h.link = false → h.link = .service ∨ r = .release →
          s.refusal r always h = some (.denied, .none)) ∧
        (s.holdsRight r h.link = false → h.link ≠ .service → r ≠ .release →
          s.refusal r always h = some (.notActive, .roles s.arbiter.epoch s.arbiter.holder)))) ∧
    (s.holdsRight r .service = true ↔
      r ∈ [Right.read, .licence, .alarm, .hold, .release, .restart]) ∧
    (∀ c : Ctl, (s.standingOf c).role = .active → (s.holdsRight r c.link = true ↔ r ≠ .release)) ∧
    (∀ c : Ctl, (s.standingOf c).role ≠ .active →
      (s.holdsRight r c.link = true ↔ r ∈ [Right.read, .hold, .claim]))

/-- The eight reads answer with the state they report, and change nothing but the response. -/
def Obligations.ReadsAnswerAndChangeNothing : Prop :=
  ∀ (s : State) (h : Header),
    ((s.linkAt h.link).up = true → (s.linkAt h.link).outstanding = none → h.sized = true →
      exec (.getStatus h) s = .next (s.answered h .ok (.status (s.statusSummary h.link)))) ∧
    (s.Passes .read h →
      exec (.readLedger h) s = .next (s.answered h .ok (.ledger s.ledgerSummary)) ∧
      exec (.readCooling h) s = .next (s.answered h .ok (.cooling s.coolingSummary)) ∧
      exec (.readLicencePool h) s = .next (s.answered h .ok (.pool s.poolSummary)) ∧
      exec (.readZoning h) s = .next (s.answered h .ok (.zoning s.zoningSummary)) ∧
      exec (.readRoles h) s = .next (s.answered h .ok (.arbiter s.rolesSummary)) ∧
      exec (.readAlarmSummary h) s = .next (s.answered h .ok (.alarms s.alarmSummary)) ∧
      exec (.readEventQueue h) s = .next (s.answered h .ok (.queue (s.queueSummary h.link))))

/-! ## Links and cursors -/

/-- LINK_UP, which leaves the queue as it stands, or, by a free value, empty on a link that comes UP again,
FRAME_DISCARDED and UNKNOWN_REQUEST, and the two requests answered before they act. Model's choices: assumptions 2, 8
and 40 (the free value, what tells the two cases of LINK_UP apart, and the numbering restarted). -/
def Obligations.LinkInterfaceEvents : Prop :=
  ∀ s : State,
    (∀ l, (s.linkAt l).up = true → exec (.linkUp l) s = .next s) ∧
    (∀ l, (s.linkAt l).up = false → (s.linkAt l).fell = false →
      exec (.linkUp l) s = .next (s.setLink l { s.linkAt l with up := true })) ∧
    (∀ l, (s.linkAt l).up = false → (s.linkAt l).fell = true →
      exec (.linkUp l) s = .next { s with
        links := put s.links (LinkId.idx l) { s.linkAt l with up := true, fell := false }
        queues := if Config.emptiesWhenUpAgain then put s.queues (LinkId.idx l)
          ⟨[], (s.queueAt l).depth, (s.queueAt l).mask, 0, false, false⟩ else s.queues }) ∧
    (∀ l bytes, (s.linkAt l).up = true → frameGood bytes = false →
      exec (.frameDiscarded l bytes) s =
        .next (s.setLink l { s.linkAt l with discarded := min ((s.linkAt l).discarded + 1) 65535 })) ∧
    (∀ h code, (s.linkAt h.link).up = true →
      exec (.unknownRequest h code) s =
        .next (s.answered h (if (s.linkAt h.link).outstanding = none then .unknownRequest else .linkBusy)
          .none)) ∧
    (∀ h, s.Passes .read h →
      exec (.resetLink h) s = .next (s.setLink h.link { s.linkAt h.link with
          response := some ⟨h.tag, .ok, .none⟩, outstanding := some ⟨h.tag, .resetLink⟩ })) ∧
    (∀ h, s.Passes .restart h →
      exec (.restartPart h) s = .next (s.setLink h.link { s.linkAt h.link with
          response := some ⟨h.tag, .ok, .none⟩, outstanding := some ⟨h.tag, .restartPart⟩ }))

/-- A link reset clears the link's interface, role, latches and queue, and ends its holding. Model's
choices: assumptions 2 (the recorded response stays), 40 (a link gone DOWN is marked) and 41 (a restart not yet
sent is cleared). -/
def Obligations.LinkResetClearsTheLink : Prop :=
  ∀ (s : State) (l : LinkId) (cause : LinkResetCause), s.agenda = [] →
    (cause = .down → (s.linkAt l).up = true) →
    (cause = .responseSent → ∃ tag, (s.linkAt l).outstanding = some ⟨tag, .resetLink⟩) →
    ∃ t, exec (.linkReset l cause) s = .next t ∧
      t.links = put s.links (LinkId.idx l)
        ⟨decide (cause = .responseSent), none, none, 0, (s.linkAt l).response, decide (cause = .down)⟩ ∧
      t.queueAt l = ⟨[], (s.queueAt l).depth, (s.queueAt l).mask, 0, false, false⟩ ∧
      t.latchesOf l = ⟨false, false⟩ ∧ (∀ k, k ≠ l → t.latchesOf k = s.latchesOf k) ∧
      (l = .service → ({ t.arbiter with latches := s.arbiter.latches } : Arbiter) = s.arbiter ∧
        t.zoning = s.zoning) ∧
      (∀ c : Ctl, l = c.link → s.arbiter.holder = some c →
        ({ t.arbiter with latches := s.arbiter.latches } : Arbiter) = s.endedArbiter c .detached ∧
        t.zoning = s.endedZoning c) ∧
      (∀ c : Ctl, l = c.link → s.arbiter.holder ≠ some c →
        ({ t.arbiter with latches := s.arbiter.latches } : Arbiter) =
          { s.arbiter with standing := put s.arbiter.standing c.idx ⟨.detached, false⟩ } ∧
        t.zoning = s.zoning) ∧
      s.sameButReports t

/-- SET CURSOR copies the entry it stands on; READ CURSOR returns the copy first and moves on. Model's choice:
assumption 45 (`State.readOn` on a table that has shrunk). -/
def Obligations.CursorsPrefetchAndMove : Prop :=
  ∀ (s : State) (h : Header), s.Passes .read h →
    (∀ start d, exec (.setCursor h none start d) s = .next (s.answered h .invalid .none)) ∧
    (∀ tb start, exec (.setCursor h tb start none) s = .next (s.answered h .invalid .none)) ∧
    (∀ tb start d, s.entryCount tb = none →
      exec (.setCursor h (some tb) start (some d)) s = .next (s.answered h .noTransaction .none)) ∧
    (∀ tb start d n, s.entryCount tb = some n →
      (n ≤ start → exec (.setCursor h (some tb) start (some d)) s = .next (s.answered h .atEnd .none)) ∧
      (start < n → exec (.setCursor h (some tb) start (some d)) s =
        .next (s.setLink h.link { s.linkAt h.link with
            cursor := some ⟨tb, start, d, s.entryAt tb start, s.countOf tb⟩
            response := some ⟨h.tag, .ok, .cursor n (s.countOf tb)⟩ }))) ∧
    (∀ n, n = 0 ∨ 8 < n → exec (.readCursor h n) s = .next (s.answered h .invalid .none)) ∧
    (∀ n, 1 ≤ n → n ≤ 8 →
      ((s.linkAt h.link).cursor = none →
        exec (.readCursor h n) s = .next (s.answered h .notFound .none)) ∧
      (∀ c, (s.linkAt h.link).cursor = some c →
        (s.entryCount c.table = none →
          exec (.readCursor h n) s = .next (s.answered h .noTransaction .none)) ∧
        (s.entryCount c.table ≠ none →
          (c.copy = none → s.entryAtPos c.table c.pos = none →
            exec (.readCursor h n) s = .next (s.answered h .atEnd .none)) ∧
          (∀ e, c.copy = some e ∨ (c.copy = none ∧ s.entryAtPos c.table c.pos = some e) →
            exec (.readCursor h n) s = .next (s.setLink h.link { s.linkAt h.link with
                cursor := some (s.cursorAt c.table (moved c.dir c.pos n) c.dir)
                response := some ⟨h.tag, .ok, .entries
                  ((e, decide (s.countOf c.table ≠ c.count)) ::
                    (State.readOn c.table c.dir (n - 1) (moved c.dir c.pos 1) s).map
                      fun e => (e, false))⟩ })))))

/-! ## Starts -/

/-- A power-on reset: every state at its start value, the presence inputs and stored contents as they
are. Model's choices: assumptions 1, 2, 3, 27, 40 and 42. -/
def Obligations.PowerOnResetStartsEverything : Prop :=
  ∀ (s : State) (serial : Option Word),
    exec (.powerOnReset serial) s = .next { State.reset with
      dev := ⟨.starting, .powerOn, 0, serial.getD 0, serial.isSome, some 5000⟩
      ctl := s.ctl.map fun c => ⟨c.input, false, some ⟨100, c.input⟩, false, 0, none⟩
      store := ⟨s.store.config, s.store.licences, s.store.zoning, fill 3 false, fill 3 false,
        fill 3 .waiting, none, none⟩
      pending := s.pending }

/-- A warm restart holds the outputs and the epoch and starts everything else: power-enable lines with their
held records, applied duties raised by R60 (every tray is ABSENT, so to 100 at least), relay outputs, alarm
points and presence inputs. Model's choices: assumptions 2, 20, 21, 27, 40 and 42. -/
def Obligations.WarmRestartHoldsTheOutputs : Prop :=
  ∀ (s : State) (serial : Option Word) (cause : RestartCause),
    (cause = .requested → ∃ l tag, (s.linkAt l).outstanding = some ⟨tag, .restartPart⟩) →
    ∀ duty : AirZone → Nat,
    duty .zoneL = max (s.trayAt 0).duty (s.trayAt 1).duty →
    duty .zoneR = max (s.trayAt 2).duty (s.trayAt 3).duty →
    ∃ t, exec (.warmRestart cause serial) s = .next t ∧
      (∀ sl, (t.auxAt sl).line = (s.auxAt sl).line ∧
        ({ t.auxAt sl with line := false, held := none } : SlotAux) = SlotAux.atStart ∧
        ((t.auxAt sl).held.isSome = (s.auxAt sl).line) ∧
        ((s.auxAt sl).line = true → (s.auxAt sl).held = none → ∀ i, (s.slotAt sl).identity = some i →
          (t.auxAt sl).held = some ⟨i.serial, i.portCount, (s.auxAt sl).enabled⟩) ∧
        ((s.auxAt sl).line = true → (s.auxAt sl).held ≠ none →
          (t.auxAt sl).held = (s.auxAt sl).held)) ∧
      (∀ tr, t.trayAt tr = ⟨.absent, none, none, none, fill 3 false,
        max (duty (zoneOfTray tr)) 100⟩) ∧
      (∀ z, t.zoneAt z =
        ⟨50, false, .normal, duty z, max (duty z) 100, some 1000⟩) ∧
      t.cooling.slots = fill 8 false ∧ t.cooling.cps = fill 2 false ∧
      t = { State.reset with
        dev := ⟨.starting, match cause with | .requested => .restartRequest | .line => .restartLine, 0,
          serial.getD 0, serial.isSome, some 5000⟩
        ctl := s.ctl.map fun c => ⟨c.input, false, some ⟨100, c.input⟩, false, 0, none⟩
        aux := t.aux
        trays := t.trays
        cooling := t.cooling
        arbiter := Arbiter.atStart
          (if s.arbiter.holder = none then s.arbiter.epoch else s.arbiter.epoch + 1)
        alarms := { s.alarms with recording := true, recorded := fill 57 false }
        links := s.links.map fun k => ⟨k.up, none, none, 0, none, false⟩
        store := ⟨s.store.config, s.store.licences, s.store.zoning, fill 3 false, fill 3 false,
          fill 3 .waiting, none, none⟩
        pending := s.pending }

/-- The load of the next section, good or failing, in STARTING. Model's choices: assumptions 3, 8, 22 and 27 (a
good ZONING load sets the commit generation to the loaded one). -/
def Obligations.SectionLoadsReachTheirBlocks : Prop :=
  ∀ (s : State) (x : StoreSection) (good : Bool), s.dev.phase = .starting → s.nextSection = some x →
    ∃ t, exec (.sectionLoadComplete x good) s = .next t ∧
    (s.agenda = [] → good = false ∨ (x = .config ∧ s.store.config = none) ∨
        (x = .licences ∧ s.store.licences = none) ∨ (x = .zoning ∧ s.store.zoning = none) →
      t.store = { s.store with
        loaded := put s.store.loaded (StoreSection.idx x) .failed
        fault := put s.store.fault (StoreSection.idx x) true
        dirty := put s.store.dirty (StoreSection.idx x) true } ∧
      ({ t with store := s.store, alarms := s.alarms, queues := s.queues, counts := s.counts } : State) =
        s) ∧
    (∀ c, x = .config → good = true → s.store.config = some c →
      t.lasting = State.lasting { s with
        settings := c.settings
        slots := Vector.ofFn fun i => { s.slotAt i with autoPower := look c.autoPower i }
        rows := Vector.ofFn fun i => Vector.ofFn fun k =>
          { s.rowAt ⟨i, k⟩ with admin := look (look c.admin i) k }
        store := { s.store with loaded := put s.store.loaded 0 .good } }) ∧
    (∀ l, x = .licences → good = true → s.store.licences = some l →
      State.lasting { t with rows := s.rows } = State.lasting { s with
        pool := { s.pool with
          table := l.map fun r => { r with expired := r.fields.kind = 2 ∧ r.fields.minutes = 0 }
          capacity := t.pool.capacity
          expiring := t.pool.expiring }
        store := { s.store with loaded := put s.store.loaded 1 .good } } ∧
      t.pool.capacity = capacityFrom t.pool.table ∧ t.pool.expiring = expiringFrom t.pool.table ∧
      ∀ p, (t.rowAt p).admin = (s.rowAt p).admin ∧ (t.rowAt p).cls = (s.rowAt p).cls) ∧
    (∀ z, x = .zoning → good = true → s.store.zoning = some z →
      t.lasting = State.lasting { s with
        zoning := { s.zoning with
          defined := z.db, active := z.db.effective, activeGen := z.gen, commitGen := z.gen }
        store := { s.store with loaded := put s.store.loaded 2 .good } })

/-- The condition a judged adopted row takes (R104). -/
def judgedCond (s : State) (p : Port) : RowCond :=
  match s.firstFail p with
  | some r => .down r
  | none =>
    if (s.rowAt p).cls = .pool ∧ (s.rowAt p).unit ≠ .assigned then .down .unlicensed else .up

/-- The end of STARTING: the blocks' work in the order of R181, the generation fixed after a failed section
(R139), the claims settled and the adopted rows judged (R90, R104), the ledger's first computation (R49) and
the recorded conditions (R164); after it the device runs, no candidate and no claim is left, and the settle
timer starts. Model's choices: assumptions 4, 8 and 18. -/
def Obligations.EndOfStartingRunsTheDevice : Prop :=
  ∀ s : State, s.dev.phase = .starting → ∃ t, exec .endOfStarting s = .next t ∧
    -- the order of the work
    t = (((((s.failUnloaded.releaseAll.fixGeneration.settleClaims.enterRunning.firstComputation
      ).deferredAdmissions.hand .headroom).serve).startSettle).settle).applyRecorded ∧
    -- the active generation
    (look s.store.loaded 2 = .good → t.zoning.activeGen = s.zoning.activeGen) ∧
    (look s.store.loaded 2 ≠ .good →
      ((∀ sl g, (s.auxAt sl).kept ≠ some (some g)) → t.zoning.activeGen = 1) ∧
      (∀ sl g, (s.auxAt sl).kept = some (some g) →
        (∀ k x, (s.auxAt k).kept = some (some x) → x ≤ g) → t.zoning.activeGen = g + 1)) ∧
    -- the claims, each taken as the settlement finds it, units going to the lowest ports
    (s.pool.claims.Nodup → (∀ p ∈ s.pool.claims, (s.rowAt p).unit = .none) →
      ∀ p, (s.pool.claims.foldl State.settleClaim s).rowAt p = { s.rowAt p with
        unit := if p ∈ (s.pool.claims.filter fun q => (s.slotAt q.slot).state = .powered).take
            (s.pool.capacity - s.unitsInUse) then .assigned else (s.rowAt p).unit }) ∧
    -- the adopted rows
    (∀ p, (allPorts.foldl State.judgeAdopted s).rowAt p = { s.rowAt p with
      cond := if (s.rowAt p).cond = .adopted then judgedCond s p else (s.rowAt p).cond
      grant := (s.rowAt p).grant &&
        !decide ((s.rowAt p).cond = .adopted ∧ judgedCond s p ≠ .up) }) ∧
    -- the first computation
    (∀ x : State, x = State.ledgerSteps 0 { s with ledger := s.ledgerStages } →
      s.ledger.overcommit = .closed →
      x.ledger.available = s.ledgerStages.available ∧ x.ledger.demand = s.ledgerStages.demand ∧
      x.ledger.headroom = s.ledgerStages.headroom ∧
      (x.ledger.overcommit = .closed ↔
        0 ≤ x.ledger.headroom ∨ anySet s.ledger.charged = false) ∧
      (0 < x.ledger.headroom → Task.headroom ∈ x.agenda)) ∧
    -- the conditions recorded after a warm restart
    (s.alarms.recording = true → ∀ n, look t.alarms.points n =
      (look s.alarms.points n).onCondition (look t.alarms.recorded n)) ∧
    -- what is left
    t.dev = { s.dev with phase := .running, startLimit := none } ∧
    t.arbiter = { s.arbiter with settle := .running 30000 } ∧
    t.pool.claims = [] ∧ (∀ sl, (t.auxAt sl).held.isNone) ∧ t.alarms.recording = false ∧
    (∀ x, look t.store.loaded x ≠ .waiting) ∧ t.agenda = [] ∧
    t.settings = s.settings ∧ t.ctl = s.ctl ∧ t.cps = s.cps ∧ t.bays = s.bays ∧ t.trayAux = s.trayAux ∧
    t.links = s.links ∧ t.pending = s.pending ∧
    (∀ p, (t.rowAt p).admin = (s.rowAt p).admin) ∧
    (∀ sl, (t.slotAt sl).identity = (s.slotAt sl).identity ∧ (t.slotAt sl).poll = (s.slotAt sl).poll)

/-! ## Inventory requests and blade power -/

/-- REQUALIFY of a rejected module starts the handshake again, and is refused by the position's state: an empty
position NOT_FOUND, QUALIFYING BUSY, and every other state IN_USE. -/
def Obligations.RequalifyStartsTheHandshake : Prop :=
  ∀ (s : State) (h : Header) (name : PositionName), s.Passes .configure h → s.agenda = [] →
    (positionOf name = none → exec (.requalify h name) s = .next (s.answered h .invalid .none)) ∧
    (∀ pos st, positionOf name = some pos → s.requalifyRefusal pos = some st →
      exec (.requalify h name) s = .next (s.answered h st .none)) ∧
    (∀ sl,
      ((s.slotAt sl).state = .empty → s.requalifyRefusal (.slot sl) = some .notFound) ∧
      ((s.slotAt sl).state = .qualifying → s.requalifyRefusal (.slot sl) = some .busy) ∧
      ((s.slotAt sl).state ∉ [SlotState.empty, .qualifying, .rejected] →
        s.requalifyRefusal (.slot sl) = some .inUse)) ∧
    (∀ c,
      ((s.cpAt c).state = .empty → s.requalifyRefusal (.cp c) = some .notFound) ∧
      ((s.cpAt c).state = .qualifying → s.requalifyRefusal (.cp c) = some .busy) ∧
      ((s.cpAt c).state = .present → s.requalifyRefusal (.cp c) = some .inUse)) ∧
    (∀ b,
      ((s.bayAt b).state = .absent → s.requalifyRefusal (.bay b) = some .notFound) ∧
      ((s.bayAt b).state = .qualifying → s.requalifyRefusal (.bay b) = some .busy) ∧
      ((s.bayAt b).state ∉ [BayState.absent, .qualifying, .rejected] →
        s.requalifyRefusal (.bay b) = some .inUse)) ∧
    (∀ tr,
      ((s.trayAt tr).state = .absent → s.requalifyRefusal (.tray tr) = some .notFound) ∧
      ((s.trayAt tr).state = .qualifying → s.requalifyRefusal (.tray tr) = some .busy) ∧
      ((s.trayAt tr).state ∉ [TrayState.absent, .qualifying, .rejected] →
        s.requalifyRefusal (.tray tr) = some .inUse)) ∧
    (∀ sl, positionOf name = some (.slot sl) → (s.slotAt sl).state = .rejected →
      ∃ t, exec (.requalify h name) s = .next t ∧
        t.slotAt sl = { s.slotAt sl with state := .qualifying, cause := some .request } ∧
        Asked s t (.identity (.slot sl)) ∧
        t.lasting = State.lasting { s.answered h .ok .none with
          ctl := put s.ctl (Position.idx (.slot sl)) { s.ctlAt (.slot sl) with attempts := 0 } }) ∧
    (∀ c, positionOf name = some (.cp c) → (s.cpAt c).state = .rejected →
      ∃ t, exec (.requalify h name) s = .next t ∧ Asked s t (.identity (.cp c)) ∧
        t.lasting = State.lasting { s.answered h .ok .none with
          cps := put s.cps (Cp.idx c) { s.cpAt c with state := .qualifying, cause := some .request }
          ctl := put s.ctl (Position.idx (.cp c)) { s.ctlAt (.cp c) with attempts := 0 } }) ∧
    (∀ b, positionOf name = some (.bay b) → (s.bayAt b).state = .rejected →
      ∃ t, exec (.requalify h name) s = .next t ∧ Asked s t (.identity (.bay b)) ∧
        t.lasting = State.lasting { s.answered h .ok .none with
          bays := put s.bays b { s.bayAt b with state := .qualifying, cause := some .request }
          ctl := put s.ctl (Position.idx (.bay b)) { s.ctlAt (.bay b) with attempts := 0 } }) ∧
    (∀ tr, positionOf name = some (.tray tr) → (s.trayAt tr).state = .rejected →
      ∃ t, exec (.requalify h name) s = .next t ∧ Asked s t (.identity (.tray tr)) ∧
        t.lasting = State.lasting { s.answered h .ok .none with
          trays := put s.trays tr { s.trayAt tr with state := .qualifying, cause := some .request }
          ctl := put s.ctl (Position.idx (.tray tr)) { s.ctlAt (.tray tr) with attempts := 0 } })

/-- SET AUTO POWER sets the slot's flag. -/
def Obligations.SetAutoPowerSetsTheFlag : Prop :=
  ∀ (s : State) (h : Header) (n : Nat) (on : Bool), s.Passes .configure h →
    (n = 0 ∨ 8 < n → exec (.setAutoPower h n on) s = .next (s.answered h .invalid .none)) ∧
    (∀ sl : Slot, n = sl.val + 1 → ∃ t, exec (.setAutoPower h n on) s = .next t ∧
      ({ t with counts := s.counts } : State) =
        ({ s with
          slots := put s.slots sl { s.slotAt sl with autoPower := on }
          store := { s.store with
            dirty := if (s.slotAt sl).autoPower = on then s.store.dirty else put s.store.dirty 0 true } }
          : State).answered h .ok .none)

/-- POWER SLOT ON: admission against the ledger, and the answers of the other states; a slot powered in a
SHUTDOWN zone is taken to THERMAL_OFF at once (R64). Model's choices: assumptions 4 and 6. -/
def Obligations.PowerSlotOnAdmitsOrRefuses : Prop :=
  ∀ (s : State) (h : Header) (n : Nat), s.Passes .configure h → s.agenda = [] →
    (n = 0 ∨ 8 < n → exec (.powerSlotOn h n) s = .next (s.answered h .invalid .none)) ∧
    ∀ sl : Slot, n = sl.val + 1 →
      ((s.slotAt sl).state = .powering ∨ (s.slotAt sl).state = .powered →
        exec (.powerSlotOn h n) s = .next (s.answered h .ok .none)) ∧
      ((s.slotAt sl).state = .empty → exec (.powerSlotOn h n) s = .next (s.answered h .notFound .none)) ∧
      ((s.slotAt sl).state = .qualifying ∨ (s.slotAt sl).state = .rejected ∨
          (s.slotAt sl).state = .faulted →
        exec (.powerSlotOn h n) s = .next (s.answered h .busy .none)) ∧
      ((s.slotAt sl).state = .thermalOff → s.belowCritClear sl = false →
        exec (.powerSlotOn h n) s = .next (s.answered h .busy .none)) ∧
      ((s.slotAt sl).state = .off ∨ (s.slotAt sl).state = .shed ∨
          ((s.slotAt sl).state = .thermalOff ∧ s.belowCritClear sl = true) →
        (s.ledger.overcommit ≠ .closed →
          exec (.powerSlotOn h n) s = .next (s.answered h .busy .none)) ∧
        (s.ledger.overcommit = .closed →
          s.ledger.headroom - ((s.bladeOf sl).basePower : Int) * 4 < 0 →
          exec (.powerSlotOn h n) s = .next (s.answered h .full .none)) ∧
        (s.ledger.overcommit = .closed →
          0 ≤ s.ledger.headroom - ((s.bladeOf sl).basePower : Int) * 4 →
          ∃ t, exec (.powerSlotOn h n) s = .next t ∧
            t.lasting = (s.answered h .ok .none).lasting ∧
            (s.ledgerStages = s.ledger → (s.zoneAt (zoneOfSlot sl)).temp ≠ .shutdown →
              t.slotAt sl = { s.slotAt sl with state := .powering, cause := some .request } ∧
              t.auxAt sl = { s.auxAt sl with line := true, readyTimer := some 5000 } ∧
              look t.ledger.charged sl = true ∧ look t.ledger.shedSet sl = (look s.ledger.shedSet sl &&
                decide ((s.slotAt sl).state ≠ .shed)) ∧
              (Txn.powerEnable sl ∈ t.bus.waiting ∨
                t.bus.running.map (·.txn) = some (.powerEnable sl)) ∧
              (∀ k, k ≠ sl → t.slotAt k = s.slotAt k ∧ t.auxAt k = s.auxAt k) ∧
              t.rows = s.rows ∧ t.cooling = s.cooling ∧ t.trays = s.trays ∧ t.zoning = s.zoning) ∧
            (s.ledgerStages = s.ledger → (s.zoneAt (zoneOfSlot sl)).temp = .shutdown →
              (look s.ledger.shedSet sl = true → (s.slotAt sl).state = .shed) →
              (t.slotAt sl).state = .thermalOff ∧ (t.slotAt sl).cause = some .thermal ∧
              (t.auxAt sl).line = false ∧ look t.ledger.charged sl = false)))

/-- POWER SLOT OFF: power removed by R16, or the slot taken to OFF, and the other answers. Model's
choices: assumptions 4 and 11. -/
def Obligations.PowerSlotOffLeavesPower : Prop :=
  ∀ (s : State) (h : Header) (n : Nat), s.Passes .configure h → s.agenda = [] →
    (n = 0 ∨ 8 < n → exec (.powerSlotOff h n) s = .next (s.answered h .invalid .none)) ∧
    ∀ sl : Slot, n = sl.val + 1 →
      ((s.slotAt sl).state = .powering ∨ (s.slotAt sl).state = .powered →
        ∃ t, exec (.powerSlotOff h n) s = .next t ∧
          t = ((s.leavePower sl .off .request).respond h.link h.tag .ok .none).settle ∧
          t.lasting = (s.answered h .ok .none).lasting) ∧
      ((s.slotAt sl).state = .shed ∨ (s.slotAt sl).state = .thermalOff ∨
          (s.slotAt sl).state = .faulted →
        ∃ t, exec (.powerSlotOff h n) s = .next t ∧
          t.slots = put s.slots sl { s.slotAt sl with state := .off, cause := some .request } ∧
          t.ledger.shedSet =
            (if (s.slotAt sl).state = .shed then put s.ledger.shedSet sl false else s.ledger.shedSet) ∧
          ({ t with
            slots := s.slots, ledger := s.ledger, alarms := s.alarms, queues := s.queues
            counts := s.counts } : State) = s.answered h .ok .none) ∧
      ((s.slotAt sl).state = .off → exec (.powerSlotOff h n) s = .next (s.answered h .ok .none)) ∧
      ((s.slotAt sl).state = .empty →
        exec (.powerSlotOff h n) s = .next (s.answered h .notFound .none)) ∧
      ((s.slotAt sl).state = .qualifying ∨ (s.slotAt sl).state = .rejected →
        exec (.powerSlotOff h n) s = .next (s.answered h .busy .none))

/-- Leaving power (R16): what a POWERING or POWERED slot has once its power is removed. Model's choices:
assumptions 4 and 11. -/
def Obligations.LeavingPowerRemovesEverything : Prop :=
  ∀ (s : State) (sl : Slot) (st : SlotState) (c : Cause),
    (¬((s.slotAt sl).state = .powering ∨ (s.slotAt sl).state = .powered) →
      s.leavePower sl st c = s) ∧
    ((s.slotAt sl).state = .powering ∨ (s.slotAt sl).state = .powered →
      ∀ t, t = s.leavePower sl st c →
        t.slotAt sl = { s.slotAt sl with
          state := st, cause := some c, enforcement := .none, attempt := 0 } ∧
        t.auxAt sl = { s.auxAt sl with
          line := false, readyTimer := none, enabled := fill 48 false, repushTimer := none
          kept := none, powered := false, admits := false } ∧
        (∀ p, p.slot = sl → (s.rowAt p).cond ≠ .nonexistent →
          t.rowAt p = { s.rowAt p with cond := .down .bladeOff, grant := false }) ∧
        (∀ x ∈ t.bus.waiting, x ≠ .powerEnable sl ∧ x ≠ .push sl ∧
          ∀ p v, p.slot = sl → x ≠ .portCommand p v) ∧
        look t.zoning.waitSet sl = false ∧ look t.cooling.slots sl = false ∧
        look t.ledger.charged sl = false ∧ (st = .shed → look t.ledger.shedSet sl = true) ∧
        (∀ k, k ≠ sl → t.slotAt k = s.slotAt k ∧ t.auxAt k = s.auxAt k) ∧ t.lasting = s.lasting)

/-! ## Power ledger -/

/-- A recompute outside STARTING gives the ledger the sums of the present inputs, the readouts and flags, and
sends a headroom notice exactly when it ends CLOSED with H risen (step 5 of R29). Model's choices: assumption
16 (the readout set, and so LEDGER_CLAMP, shows the margin of the same recompute). -/
def Obligations.RecomputeFollowsTheInputs : Prop :=
  ∀ s t : State, t = s.recompute →
    (s.dev.phase = .starting → t = s) ∧
    (s.dev.phase = .running →
      t.ledger.figure = s.bays.map supplyFigure ∧
      t.ledger.raw = (s.bays.map supplyFigure).toList.sum ∧
      t.ledger.available =
        (capacityOf s.settings.policy (s.bays.map BayEntry.counts) (s.bays.map supplyFigure)).1 ∧
      t.ledger.redundancyLost =
        (capacityOf s.settings.policy (s.bays.map BayEntry.counts) (s.bays.map supplyFigure)).2 ∧
      t.ledger.cps = s.cpDemand ∧ t.ledger.trays = s.trayDemand ∧ t.ledger.blades = s.bladeDemand ∧
      t.ledger.grants = s.grantDemand ∧
      t.ledger.demand = s.cpDemand + s.trayDemand + s.bladeDemand + s.grantDemand ∧
      t.ledger.headroom = t.ledger.available - t.ledger.demand ∧
      t.ledger.measured = s.measuredDraw ∧
      t.ledger.margin = t.ledger.available * s.settings.warnPercent / 100 ∧
      t.ledger.readouts = t.ledger.readoutSet s.settings.scale ∧
      t.ledger.clamp = (s.ledger.clamp || t.ledger.saturates s.settings.scale) ∧
      t.ledger.low = decide (t.ledger.headroom < t.ledger.margin) ∧
      t.ledger.headroomLow = (s.ledger.headroomLow || t.ledger.low) ∧
      t.ledger.charged = s.ledger.charged ∧ t.ledger.shedSet = s.ledger.shedSet ∧
      (Task.headroom ∈ t.agenda ↔ Task.headroom ∈ s.agenda ∨
        (t.ledger.overcommit = .closed ∧ s.ledger.headroom < t.ledger.headroom)) ∧
      t.lasting = s.lasting)

/-- A shortfall with a blade charged opens an overcommit: GRACE, or SHEDDING with the first shed ordered.
Model's choices: assumption 4. -/
def Obligations.ShortfallOpensAnOvercommit : Prop :=
  ∀ s t : State, s.dev.phase = .running → s.ledger.overcommit = .closed →
    s.ledgerStages.headroom < 0 → t = s.recompute →
    (anySet s.ledger.charged = false → t.ledger.overcommit = .closed) ∧
    (anySet s.ledger.charged = true →
      t.ledger.restoreTimer = none ∧ t.ledger.pass = none ∧
      (s.ledgerStages.raw < s.ledgerStages.measured ∨ s.settings.graceTime = 0 →
        t.ledger.overcommit = .shedding ∧ t.ledger.graceTimer = none ∧
        ∀ sl, s.lowestCharged = some sl →
          t.ledger.order = some sl ∧ Task.shed sl ∈ t.agenda) ∧
      (¬(s.ledgerStages.raw < s.ledgerStages.measured) → s.settings.graceTime ≠ 0 →
        t.ledger.overcommit = .grace ∧ t.ledger.graceTimer = some (s.settings.graceTime * 1000) ∧
        t.ledger.order = s.ledger.order))

/-- The expiries of the grace, restore and ready timers, and the end of a restore pass when the last slot it
has not offered leaves the shed set (R48). Model's choices: assumptions 4, 8 (a stopped timer) and 17. -/
def Obligations.PowerTimersExpire : Prop :=
  ∀ s : State,
    (s.ledger.graceTimer ≠ none → s.ledger.overcommit = .grace →
      exec .graceTimerExpiry s = .next (s.startShedding 2).settle ∧
      (s.startShedding 2).settle.lasting = s.lasting ∧
      (s.startShedding 2).ledger.overcommit = .shedding ∧
      (s.startShedding 2).ledger.graceTimer = none ∧
      (∀ sl, s.lowestCharged = some sl → (s.startShedding 2).ledger.order = some sl ∧
        Task.shed sl ∈ (s.startShedding 2).agenda)) ∧
    (s.ledger.graceTimer = none → exec .graceTimerExpiry s = .next s) ∧
    (s.ledger.restoreTimer ≠ none →
      ∃ u, exec .restoreTimerExpiry s = .next (u : State).settle ∧ u.settle.lasting = s.lasting ∧
        u.ledger = { s.ledger with restoreTimer := none, pass := some ⟨s.ledger.shedSet, none⟩ } ∧
        u.agenda = s.agenda ++ [.restore] ∧
        ({ u with ledger := s.ledger, agenda := s.agenda, queues := s.queues } : State) = s) ∧
    (s.ledger.restoreTimer = none → exec .restoreTimerExpiry s = .next s) ∧
    (∀ sl x, s.ledger.pass = some x → x.waiting ≠ some sl →
      (∀ c, look x.remaining c = true → look s.ledger.shedSet c = true → c = sl) →
      (s.leaveShed sl).ledger.pass = none ∧
      (s.leaveShed sl).ledger.passEnd = some s.ledger.headroom) ∧
    (∀ sl, (s.auxAt sl).readyTimer ≠ none →
      exec (.readyTimerExpiry sl) s =
        .next (State.leavePower sl .faulted .readyTimeout
          { s with aux := put s.aux sl { s.auxAt sl with readyTimer := none } }).settle ∧
      ∀ t, exec (.readyTimerExpiry sl) s = .next t → t.lasting = s.lasting) ∧
    (∀ sl, (s.auxAt sl).readyTimer = none → exec (.readyTimerExpiry sl) s = .next s)

/-- SET REDUNDANCY POLICY applies the policy, recomputes (O28 says what a recompute gives), serves the headroom
notice a rise of H brings, and answers with the readout of A. Model's choices: assumption 4. -/
def Obligations.SetPolicyRecomputes : Prop :=
  ∀ (s : State) (h : Header), s.Passes .configure h → s.agenda = [] →
    exec (.setRedundancyPolicy h none) s = .next (s.answered h .invalid .none) ∧
    ∀ (p : Policy) (f : Settings) (cap : Int × Bool) (u : State), f = { s.settings with policy := p } →
      cap = capacityOf p (s.bays.map BayEntry.counts) (s.bays.map supplyFigure) →
      u = { s with
        settings := f
        store := { s.store with
          dirty := if f = s.settings then s.store.dirty else put s.store.dirty 0 true } } →
      ∃ t, exec (.setRedundancyPolicy h (some p)) s = .next t ∧
        t = ((u.recompute.serve).answered h .ok
          (.value (readoutOf s.settings.scale cap.1))).settle ∧
        t.ledger.available = cap.1 ∧ t.ledger.redundancyLost = cap.2 ∧
        t.ledger.raw = (s.bays.map supplyFigure).toList.sum ∧
        t.ledger.readouts.available = readoutOf s.settings.scale cap.1 ∧
        t.lasting = (s.tookSettings h f .ok (.value (readoutOf s.settings.scale cap.1))).lasting

/-- The ledger with the margin, the readout set and the low flags derived again from the quantities of the last
recompute. -/
def reDerived (l : Ledger) (f : Settings) : Ledger :=
  let m : Ledger := { l with margin := l.available * f.warnPercent / 100 }
  let low := decide (l.headroom < m.margin)
  { m with
    readouts := m.readoutSet f.scale
    saturated := m.saturates f.scale
    clamp := l.clamp || m.saturates f.scale
    low := low
    headroomLow := l.headroomLow || low }

/-- What SET HEADROOM WARNING and SET REPORT SCALE leave: the re-derived ledger, LOW's event when it
changed, and nothing else (R25). -/
def TookDerived (s t : State) (h : Header) (f : Settings) (st : Status) (r : Results) : Prop :=
  t.ledger = reDerived s.ledger f ∧
  (t.ledger.low = s.ledger.low → t.queues = s.queues) ∧
  (t.ledger.low ≠ s.ledger.low → t.queues = s.queues.map fun q =>
    q.offer .ledger 0 (if t.ledger.low then 8 else 9) (s16 (readoutOf f.scale s.ledger.headroom))
      s.arbiter.epoch) ∧
  (∀ tb, tb ≠ .bay → t.countOf tb = s.countOf tb) ∧
  ({ t with ledger := s.ledger, queues := s.queues, counts := s.counts } : State) = s.tookSettings h f st r

/-- SET HEADROOM WARNING and SET REPORT SCALE re-derive the readout set, the margin and LOW; neither
recomputes. Model's choices: assumptions 14 (the action numbers 8 and 9 of
LOW_ON and LOW_OFF, which R51 and R172 leave to the list's positions), 15 and 16. -/
def Obligations.WarningAndScaleReDerive : Prop :=
  ∀ (s : State) (h : Header), s.Passes .configure h →
    (∀ n, ∃ t, exec (.setHeadroomWarning h n) s = .next t ∧
      TookDerived s t h { s.settings with warnPercent := min n 50 }
        (if n ≤ 50 then .ok else .adjusted) (if n ≤ 50 then .none else .value 50)) ∧
    exec (.setReportScale h none) s = .next (s.answered h .invalid .none) ∧
    (∀ x : Scale, ∃ t, exec (.setReportScale h (some x)) s = .next t ∧
      TookDerived s t h { s.settings with scale := x } .ok .none)

/-- CLEAR STICKY takes each sticky flag by its cause, and answers with both; a later recompute sets them
again if their causes hold. Model's choices: assumption 16 (the set that a recompute tests for saturation shows
the margin of that recompute). -/
def Obligations.ClearStickyTakesBothFlags : Prop :=
  (∀ (s : State) (h : Header), s.Passes .configure h →
    exec (.clearSticky h) s =
      .next (({ s with ledger := { s.ledger with
        headroomLow := s.ledger.headroomLow && s.ledger.low
        clamp := s.ledger.clamp && s.ledger.saturated } } : State).answered h .ok
          (.sticky (s.ledger.headroomLow && s.ledger.low) (s.ledger.clamp && s.ledger.saturated)))) ∧
  (∀ s : State, s.dev.phase = .running →
    (s.recompute.ledger.low = true → s.recompute.ledger.headroomLow = true) ∧
    (s.recompute.ledger.saturates s.settings.scale = true → s.recompute.ledger.clamp = true) ∧
    s.recompute.ledger.saturated = s.recompute.ledger.saturates s.settings.scale)

/-- SET AUTO RESTORE: its effect on the restore timer and the restore pass. Model's choice: assumption 47 (a grace
time of 0). -/
def Obligations.SetAutoRestoreActsOnTimerAndPass : Prop :=
  ∀ (s : State) (h : Header), s.Passes .configure h →
    exec (.setAutoRestore h none) s = .next (s.answered h .invalid .none) ∧
    (∀ v, v = s.settings.autoRestore →
      exec (.setAutoRestore h (some v)) s = .next (s.answered h .ok .none)) ∧
    (s.settings.autoRestore = false →
      exec (.setAutoRestore h (some true)) s =
        .next (({ s with ledger := { s.ledger with
          restoreTimer :=
            if s.ledger.overcommit = .closed ∧ anySet s.ledger.shedSet = true ∧ s.ledger.pass = none then
              some (s.settings.graceTime * 1000)
            else s.ledger.restoreTimer } } : State).tookSettings h
          { s.settings with autoRestore := true } .ok .none)) ∧
    (s.settings.autoRestore = true →
      exec (.setAutoRestore h (some false)) s =
        .next (({ s with ledger := { s.ledger with
          restoreTimer := none
          pass := none
          passEnd := if s.ledger.pass = none then s.ledger.passEnd else some s.ledger.headroom } }
            : State).tookSettings h { s.settings with autoRestore := false } .ok .none))

/-- SET SHED PRIORITY takes exactly the permutations of slots 1 to 8, and changes the priority alone. -/
def Obligations.SetShedPriorityTakesPermutations : Prop :=
  ∀ (s : State) (h : Header) (l : List Nat), s.Passes .configure h →
    (∀ p : Vector Slot 8, p.toList.map (fun i => i.val + 1) = l → p.toList.Nodup →
      exec (.setShedPriority h l) s =
        .next (s.tookSettings h { s.settings with shedPriority := p } .ok .none)) ∧
    ((¬∃ p : Vector Slot 8, p.toList.map (fun i => i.val + 1) = l ∧ p.toList.Nodup) →
      exec (.setShedPriority h l) s = .next (s.answered h .invalid .none)) ∧
    (s.lowestCharged = s.settings.shedPriority.toList.reverse.find? (look s.ledger.charged ·)) ∧
    (∀ x, s.ledger.pass = some x → s.candidates = s.settings.shedPriority.toList.filter
      fun sl => look x.remaining sl && look s.ledger.shedSet sl)

/-- SET GRACE TIME, SET PARK TIME and SET LEASE TIME clamp, apply and leave running timers as they are.
Model's choices: assumption 15. -/
def Obligations.TimeSettingsClampAndApply : Prop :=
  ∀ (s : State) (h : Header) (n : Nat), s.Passes .configure h →
    exec (.setGraceTime h n) s = .next (s.tookSettings h { s.settings with graceTime := min n 60 }
      (if n ≤ 60 then .ok else .adjusted) (if n ≤ 60 then .none else .value 60)) ∧
    exec (.setParkTime h n) s = .next (s.tookSettings h { s.settings with parkTime := min n 3600 }
      (if n ≤ 3600 then .ok else .adjusted) (if n ≤ 3600 then .none else .value 3600)) ∧
    (500 ≤ n → n ≤ 30000 → exec (.setLeaseTime h n) s =
      .next (s.tookSettings h { s.settings with leaseTime := n } .ok .none)) ∧
    (n < 500 → exec (.setLeaseTime h n) s =
      .next (s.tookSettings h { s.settings with leaseTime := 500 } .adjusted (.value 500))) ∧
    (30000 < n → exec (.setLeaseTime h n) s =
      .next (s.tookSettings h { s.settings with leaseTime := 30000 } .adjusted (.value 30000)))

/-! ## Cooling -/

/-- The duty a raise gives a tray: the target of its zone when it stands below it. -/
def raisedDuty (s : State) (trayMin : Nat) (override : Bool) (tr : Tray) : Nat :=
  let z := zoneOfTray tr
  let f := s.floors z
  max (s.trayAt tr).duty (max (s.zoneAt z).demand
    (max trayMin (if override then 100 else floorDuty f)))

/-- What a raise does to a zone: its target is the raise's when some tray of the zone stands below it
(assumption 20). -/
def raisedZone (s : State) (trayMin : Nat) (override : Bool) (z : AirZone) : ZoneCtl :=
  let target := max (s.zoneAt z).demand (max trayMin (if override then 100 else floorDuty (s.floors z)))
  { s.zoneAt z with
    target := if (traysOf z).any fun tr => (s.trayAt tr).duty < target then target
      else (s.zoneAt z).target }

/-- SET HYSTERESIS and SET TRAY MINIMUM clamp and apply; a raised minimum lifts the trays at once. Model's
choices: assumptions 15 (OK carries no results) and 20 (a raise writes a zone's target only when some tray
stands below it). -/
def Obligations.HysteresisAndTrayMinimum : Prop :=
  ∀ (s : State) (h : Header) (v : Int), s.Passes .configure h →
    (∀ a : Nat, (a : Int) = max 0 (min 20 v) →
      exec (.setHysteresis h v) s = .next (s.tookSettings h { s.settings with hysteresis := a }
        (if (a : Int) = v then .ok else .adjusted) (if (a : Int) = v then .none else .value a))) ∧
    (∀ a : Nat, (a : Int) = max 20 (min 100 v) →
      ∃ t, exec (.setTrayMinimum h v) s = .next t ∧
        (∀ tr, t.trayAt tr = { s.trayAt tr with
          duty := if s.settings.trayMin < a then raisedDuty s a false tr else (s.trayAt tr).duty }) ∧
        (∀ z, t.zoneAt z = if s.settings.trayMin < a then raisedZone s a false z else s.zoneAt z) ∧
        t.cooling.slots = s.cooling.slots ∧ t.cooling.cps = s.cooling.cps ∧
        ({ t with trays := s.trays, cooling := s.cooling, counts := s.counts } : State) =
          s.tookSettings h { s.settings with trayMin := a }
            (if (a : Int) = v then .ok else .adjusted) (if (a : Int) = v then .none else .value a))

/-- The state R61 gives a zone: the highest whose threshold the temperature reaches, or, at or below the state
it is in, whose clear point the temperature has not fallen below. -/
def tempAfter (f : Settings) (x : Int) (old : TempState) : TempState :=
  if f.shutdownAt ≤ x ∨ (old = .shutdown ∧ f.shutdownAt - 6 ≤ x) then .shutdown
  else if f.critAt ≤ x ∨ (old ∈ [TempState.crit, .shutdown] ∧ f.critAt - 6 ≤ x) then .crit
  else if f.warnAt ≤ x ∨ (old ∈ [TempState.warn, .crit, .shutdown] ∧ f.warnAt - 6 ≤ x) then .warn
  else .normal

/-- The queues once a condition has been taken at its alarm point: ALARM_CHANGE is offered to each when the point
moves (R158, R159, R165). -/
def conditioned (s : State) (n : Fin 57) (v : Bool) (qs : Vector EventQueue 3) : Vector EventQueue 3 :=
  let new := (look s.alarms.points n).onCondition v
  if new = look s.alarms.points n then qs
  else qs.map fun q =>
    q.offer .alarmChange (u16 n.val) (pointCode new) (if v then 1 else 2) s.arbiter.epoch

/-- SET FAN CURVE and SET TEMPERATURE THRESHOLDS: clamped, checked, applied or answered INVALID; and the
evaluation of a zone's temperature state they bring, with the raise, the conditions, the event and the
thermal-off orders of a change, in STARTING too. Model's choices: assumptions 4, 15, 20 (a raise writes a zone's
target only when some tray stands below it), 30 and 33 (the alarm records precede the zone's event). -/
def Obligations.CurveAndThresholdsApply : Prop :=
  (∀ (s : State) (h : Header), s.Passes .configure h → s.agenda = [] →
    (∀ points, curveOf points = none →
      exec (.setFanCurve h points) s = .next (s.answered h .invalid .none)) ∧
    (∀ points ts ds, curveOf points = some (ts, ds) →
      ∃ t, exec (.setFanCurve h points) s = .next t ∧
        t.lasting = (s.tookSettings h { s.settings with curveTemp := ts, curveDuty := ds }
          (if points.any breakpointAdjusted then .adjusted else .ok)
          (if points.any breakpointAdjusted then .curve ts ds else .none)).lasting ∧
        ((∀ z, s.zoneSensors z ≠ []) →
          t = s.tookSettings h { s.settings with curveTemp := ts, curveDuty := ds }
            (if points.any breakpointAdjusted then .adjusted else .ok)
            (if points.any breakpointAdjusted then .curve ts ds else .none))) ∧
    (∀ w c d w' c' d', w' = clampTemp w → c' = clampTemp c → d' = clampTemp d →
      (¬(w' < c' ∧ c' < d') →
        exec (.setTemperatureThresholds h w c d) s = .next (s.answered h .invalid .none)) ∧
      (w' < c' → c' < d' → ∀ (f : Settings) (u : State) (st : Status) (r : Results),
        f = { s.settings with warnAt := w', critAt := c', shutdownAt := d' } →
        st = (if w' = w ∧ c' = c ∧ d' = d then Status.ok else .adjusted) →
        r = (if w' = w ∧ c' = c ∧ d' = d then Results.none else .thresholds w' c' d') →
        u = { s with
          settings := f
          store := { s.store with
            dirty := if f = s.settings then s.store.dirty else put s.store.dirty 0 true } } →
        ∃ t, exec (.setTemperatureThresholds h w c d) s = .next t ∧
          t = (((u.evaluateTemp .zoneL).evaluateTemp .zoneR).answered h st r).settle ∧
          t.lasting = (s.tookSettings h f st r).lasting))) ∧
    -- one zone evaluated
    (∀ (s : State) (z : AirZone) (st : TempState) (t : State),
      st = tempAfter s.settings (s.zoneAt z).tz (s.zoneAt z).temp → t = s.evaluateTemp z →
      (st = (s.zoneAt z).temp → t = s) ∧
      (st ≠ (s.zoneAt z).temp →
        (∀ target, target = (if st = .crit ∨ st = .shutdown then
            max (s.zoneAt z).demand (max s.settings.trayMin 100) else 0) →
          t.cooling.slots = s.cooling.slots ∧ t.cooling.cps = s.cooling.cps ∧
          t.zoneAt z = { s.zoneAt z with
            temp := st
            target := if (traysOf z).any fun tr => (s.trayAt tr).duty < target then target
              else (s.zoneAt z).target } ∧
          (∀ tr, t.trayAt tr = { s.trayAt tr with
            duty := if zoneOfTray tr = z then max (s.trayAt tr).duty target else (s.trayAt tr).duty })) ∧
        (∀ y, y ≠ z → t.zoneAt y = s.zoneAt y) ∧
        (s.alarms.recording = false →
          look t.alarms.points (zoneWarn z) =
            (look s.alarms.points (zoneWarn z)).onCondition (decide (st ≠ .normal)) ∧
          look t.alarms.points (zoneCrit z) =
            (look s.alarms.points (zoneCrit z)).onCondition (decide (st = .crit ∨ st = .shutdown)) ∧
          look t.alarms.points (zoneShutdown z) =
            (look s.alarms.points (zoneShutdown z)).onCondition (decide (st = .shutdown))) ∧
        (s.alarms.recording = true →
          t.alarms = { s.alarms with
            recorded := put (put (put s.alarms.recorded (zoneWarn z) (decide (st ≠ .normal)))
                (zoneCrit z) (decide (st = .crit ∨ st = .shutdown)))
              (zoneShutdown z) (decide (st = .shutdown)) } ∧
          t.queues = s.queues.map fun q =>
            q.offer .zoneTempState (AirZone.code z) (u16 st.rank) (s16 (s.zoneAt z).tz) s.arbiter.epoch) ∧
        (s.alarms.recording = false →
          t.queues = (conditioned s (zoneShutdown z) (decide (st = .shutdown))
            (conditioned s (zoneCrit z) (decide (st = .crit ∨ st = .shutdown))
              (conditioned s (zoneWarn z) (decide (st ≠ .normal)) s.queues))).map fun q =>
            q.offer .zoneTempState (AirZone.code z) (u16 st.rank) (s16 (s.zoneAt z).tz) s.arbiter.epoch) ∧
        t.agenda = s.agenda ++ (if st = .shutdown then
          ((slotsOf z).filter fun sl =>
            (s.slotAt sl).state = .powering ∨ (s.slotAt sl).state = .powered).map Task.thermalOff
          else []) ∧
        ({ t with
          cooling := s.cooling, trays := s.trays, alarms := s.alarms, queues := s.queues
          counts := s.counts, agenda := s.agenda } : State) = s)) ∧
    (∀ (s : State) (sl : Slot), s.runTask (.thermalOff sl) = s.leavePower sl .thermalOff .thermal)

/-- The update of an airflow zone: demand under hysteresis, target, and each tray moved toward it.
Model's choices: assumption 8. -/
def Obligations.UpdateMovesTheZone : Prop :=
  ∀ (s : State) (z : AirZone), (s.zoneAt z).updateTimer ≠ none →
    ∀ up down demand target : Nat,
    up = curveValue s.settings.curveTemp s.settings.curveDuty (s.zoneAt z).tz →
    down = curveValue s.settings.curveTemp s.settings.curveDuty
      (min ((s.zoneAt z).tz + s.settings.hysteresis) 250) →
    demand = (if (s.zoneAt z).demand ≤ up then up
      else if down < (s.zoneAt z).demand then down else (s.zoneAt z).demand) →
    target = max demand (max s.settings.trayMin (floorDuty (s.floors z))) →
    ∃ t, exec (.updateTimerExpiry z) s = .next t ∧
      t.zoneAt z = { s.zoneAt z with demand := demand, target := target, updateTimer := some 1000 } ∧
      (∀ y, y ≠ z → t.zoneAt y = s.zoneAt y) ∧
      t.cooling.slots = s.cooling.slots ∧ t.cooling.cps = s.cooling.cps ∧
      (∀ tr, zoneOfTray tr = z → t.trayAt tr = { s.trayAt tr with
        duty := if (s.trayAt tr).duty ≤ target then target else max target ((s.trayAt tr).duty - 5) }) ∧
      (∀ tr, zoneOfTray tr ≠ z → t.trayAt tr = s.trayAt tr) ∧
      ({ t with trays := s.trays, cooling := s.cooling, counts := s.counts } : State) = s

/-! ## Licences and ports -/

/-- The order in which a reclaim takes units (R87): PARKED, then disabled, then enabled ports whose row is down,
then the others; 0 is no unit. -/
def reclaimClass (r : Row) : Nat :=
  if r.unit = .none then 0
  else if r.unit = .parked then 1
  else if r.admin = false then 2
  else if RowCond.live r.cond = false then 3
  else 4

/-- INSTALL LICENCE and REMOVE LICENCE: the table, the capacity, the reclaim or availability notice that
follows, and the answers; the rows an availability notice serves, in their order (R83); and the units a
reclaim takes, in their order, with what it does to each row (R87).
Model's choices: assumptions 22, 29 and 46. -/
def Obligations.LicencesAreInstalledAndRemoved : Prop :=
  ∀ (s : State) (h : Header), s.Passes .licence h → s.agenda = [] →
    (∀ f st, s.installRefusal f = some st →
      exec (.installLicence h f) s = .next (s.answered h st .none)) ∧
    (∀ f, s.installRefusal f = none →
      ∃ t, exec (.installLicence h f) s = .next t ∧
        t.pool.table = s.pool.table ++ [⟨f, false⟩] ∧ t.pool.capacity = capacityFrom t.pool.table ∧
        t.pool.expiring = expiringFrom t.pool.table ∧
        State.lasting { t with rows := s.rows, pool := s.pool } =
          State.lasting (({ s with store := { s.store with dirty := put s.store.dirty 1 true } }
            : State).answered h .ok (.values s.pool.table.length t.pool.capacity)) ∧
        (t.pool.capacity < s.unitsInUse → t.unitsInUse = t.pool.capacity) ∧
        (∀ p, (t.rowAt p).admin = (s.rowAt p).admin ∧ (t.rowAt p).cls = (s.rowAt p).cls)) ∧
    exec (.removeLicence h 0) s = .next (s.answered h .invalid .none) ∧
    (∀ serial, serial ≠ 0 → (∀ r ∈ s.pool.table, r.fields.serial ≠ serial) →
      exec (.removeLicence h serial) s = .next (s.answered h .notFound .none)) ∧
    (∀ serial i, serial ≠ 0 → s.pool.table.findIdx? (fun r => r.fields.serial = serial) = some i →
      ∃ t, exec (.removeLicence h serial) s = .next t ∧
        t.pool.table = s.pool.table.eraseIdx i ∧ t.pool.capacity = capacityFrom t.pool.table ∧
        t.pool.expiring = expiringFrom t.pool.table ∧
        State.lasting { t with rows := s.rows, pool := s.pool } =
          State.lasting (({ s with store := { s.store with dirty := put s.store.dirty 1 true } }
            : State).answered h .ok
              (.values t.pool.capacity ((s.unitsInUse - t.pool.capacity : Nat)))) ∧
        (t.pool.capacity < s.unitsInUse → t.unitsInUse = t.pool.capacity) ∧
        (∀ p, (t.rowAt p).admin = (s.rowAt p).admin ∧ (t.rowAt p).cls = (s.rowAt p).cls)) ∧
    -- what follows a derivation of the capacity
    (∀ old,
      (s.pool.capacity < s.unitsInUse →
        s.capacityEffect old = s.reclaim (s.unitsInUse - s.pool.capacity) [] ∧
        (s.capacityEffect old).unitsInUse = s.pool.capacity) ∧
      (s.unitsInUse ≤ s.pool.capacity → old < s.pool.capacity → s.capacityEffect old = s.availability) ∧
      (s.unitsInUse ≤ s.pool.capacity → s.pool.capacity ≤ old → s.capacityEffect old = s)) ∧
    -- units given again: the rows that wait are evaluated in ascending global order
    (allPorts.map Port.global = List.range 384 ∧
      (s.unitsInUse < s.pool.capacity → s.availability = (allPorts.foldl (fun t p =>
        if (t.rowAt p).admin = true ∧ (t.rowAt p).cls = .pool ∧ (t.rowAt p).cond = .down .unlicensed ∧
            (t.auxAt p.slot).powered = true then t.evaluate p else t) s).serve) ∧
      (s.pool.capacity ≤ s.unitsInUse → s.availability = s)) ∧
    -- the unit a reclaim takes next
    ((∀ p, (s.rowAt p).unit = .none) → s.victim = none ∧ ∀ n out, s.reclaim n out = s) ∧
    (∀ p, (s.rowAt p).unit ≠ .none →
      (∀ q, (s.rowAt q).unit ≠ .none → reclaimClass (s.rowAt p) < reclaimClass (s.rowAt q) ∨
        (reclaimClass (s.rowAt p) = reclaimClass (s.rowAt q) ∧ Port.global q ≤ Port.global p)) →
      s.victim = some (p, min (reclaimClass (s.rowAt p)) 3) ∧
      (∀ n out, s.reclaim (n + 1) out =
        (s.reclaimOne p (min (reclaimClass (s.rowAt p)) 3) (p :: out)).reclaim n (p :: out))) ∧
    -- what it does to the row, and to the rows whose units the reclaim took before
    (∀ p tier out t, (s.rowAt p).unit ≠ .none → s.pool.capacity < s.unitsInUse →
      t = s.reclaimOne p tier out →
      (∀ q ∈ out, q ≠ p → t.rowAt q = s.rowAt q) ∧
      t.unitsInUse + 1 = s.unitsInUse ∧
      (RowCond.live (s.rowAt p).cond = false → t.rowAt p = { s.rowAt p with unit := .none }) ∧
      (RowCond.live (s.rowAt p).cond = true →
        t.rowAt p = { s.rowAt p with unit := .none, cond := .down .unlicensed, grant := false }))

/-- RELEASE PORT UNIT frees a disabled port's unit, and stops the park timer of its slot when no PARKED unit of
the slot is left (R84, R85). Model's choices: assumptions 22 and 38 (a port without a unit is NOT_FOUND, ENABLED
or not). -/
def Obligations.ReleasePortUnitFreesTheUnit : Prop :=
  ∀ (s : State) (h : Header), s.Passes .configure h → s.agenda = [] →
    (∀ n, 384 ≤ n → exec (.releasePortUnit h n) s = .next (s.answered h .invalid .none)) ∧
    (∀ p, (s.rowAt p).unit = .none →
      exec (.releasePortUnit h (Port.global p)) s = .next (s.answered h .notFound .none)) ∧
    (∀ p, (s.rowAt p).unit ≠ .none → (s.rowAt p).admin = true →
      exec (.releasePortUnit h (Port.global p)) s = .next (s.answered h .inUse .none)) ∧
    (∀ p, (s.rowAt p).unit ≠ .none → (s.rowAt p).admin = false →
      ∃ t, exec (.releasePortUnit h (Port.global p)) s = .next t ∧
        t.lasting = State.lasting ((s.setRow p { s.rowAt p with unit := .none }).answered h .ok
          (.value ((s.pool.capacity - (s.unitsInUse - 1) : Nat)))) ∧
        ((∀ q, q.slot = p.slot → q ≠ p → (s.rowAt q).unit ≠ .parked) →
          (t.auxAt p.slot).parkTimer = none) ∧
        ((∃ q, q.slot = p.slot ∧ q ≠ p ∧ (s.rowAt q).unit = .parked) →
          (t.auxAt p.slot).parkTimer = (s.auxAt p.slot).parkTimer) ∧
        (∀ sl, sl ≠ p.slot → (t.auxAt sl).parkTimer = (s.auxAt sl).parkTimer))

/-- The uptime minute timer ages every VALID trial by a minute, and marks LICENCES dirty when a record expires
and at each whole hour that leaves a VALID trial (R77, R78); a park timer frees its slot's units; the settle
timer lets HEADLESS show. Also the two rules that start and end a park timer (R85): a removed blade's
units are parked, and a blade that qualifies takes back those its POOL ports can use. Model's choices:
assumptions 4 and 8. -/
def Obligations.MinuteParkAndSettleTimers : Prop :=
  ∀ s : State,
    (s.pool.minuteTimer ≠ none → ∃ t, exec .uptimeMinuteTimerExpiry s = .next t ∧
      t.pool.minutes = s.pool.minutes + 1 ∧ t.pool.minuteTimer = some 60000 ∧
      t.pool.table = s.pool.table.map (fun r =>
        if r.expired = false ∧ r.fields.kind = 2 then
          { fields := { r.fields with minutes := r.fields.minutes - 1 }
            expired := r.fields.minutes - 1 = 0 }
        else r) ∧
      t.pool.expiring = expiringFrom t.pool.table ∧ t.pool.claims = s.pool.claims ∧
      ((∃ r ∈ s.pool.table, r.expired = false ∧ r.fields.kind = 2 ∧ r.fields.minutes = 1) →
        t.pool.capacity = capacityFrom t.pool.table) ∧
      ((¬∃ r ∈ s.pool.table, r.expired = false ∧ r.fields.kind = 2 ∧ r.fields.minutes = 1) →
        t.pool.capacity = s.pool.capacity) ∧
      State.lasting { t with rows := s.rows, pool := s.pool, store := s.store } = s.lasting ∧
      ({ t.store with dirty := s.store.dirty } : Store) = s.store ∧
      t.store.dirty =
        (if (∃ r ∈ s.pool.table, r.expired = false ∧ r.fields.kind = 2 ∧ r.fields.minutes = 1) ∨
            (t.pool.minutes % 60 = 0 ∧ ∃ r ∈ t.pool.table, r.expired = false ∧ r.fields.kind = 2) then
          put s.store.dirty 1 true
        else s.store.dirty) ∧
      (∀ p, (t.rowAt p).admin = (s.rowAt p).admin ∧ (t.rowAt p).cls = (s.rowAt p).cls)) ∧
    (s.pool.minuteTimer = none → exec .uptimeMinuteTimerExpiry s = .next s) ∧
    (∀ sl, (s.auxAt sl).parkTimer ≠ none →
      exec (.parkTimerExpiry sl) s = .next (s.parkExpire sl).settle ∧
      (s.parkExpire sl).settle.lasting = State.lasting { s with
        rows := put s.rows sl ((look s.rows sl).map fun r =>
          { r with unit := if r.unit = .parked then .none else r.unit }) }) ∧
    (∀ sl, (s.auxAt sl).parkTimer = none → exec (.parkTimerExpiry sl) s = .next s) ∧
    -- a blade removed
    (∀ sl t, t = s.parkUnits sl →
      ((∀ p, p.slot = sl → (s.rowAt p).unit ≠ .assigned) → t = s) ∧
      ((∃ p, p.slot = sl ∧ (s.rowAt p).unit = .assigned) → s.settings.parkTime ≠ 0 →
        (t.auxAt sl).parkTimer = some (s.settings.parkTime * 1000) ∧
        t.unitsInUse = s.unitsInUse ∧
        ∀ p, t.rowAt p = { s.rowAt p with
          unit := if p.slot = sl ∧ (s.rowAt p).unit = .assigned then .parked else (s.rowAt p).unit }) ∧
      (s.settings.parkTime = 0 → (s.auxAt sl).powered = false → ∀ p, p.slot = sl →
        (s.rowAt p).unit ≠ .parked → (t.rowAt p).unit = .none)) ∧
    -- a blade qualified while the park timer runs
    (∀ sl i t, (s.auxAt sl).parkTimer ≠ none → (s.auxAt sl).powered = false →
      t = s.restoreParked sl i →
      (t.auxAt sl).parkTimer = none ∧
      ∀ p, p.slot = sl → (s.rowAt p).unit = .parked → (t.rowAt p).unit =
        (if i.baseCount ≤ p.idx.val ∧ p.idx.val < i.portCount then .assigned else .none)) ∧
    (∀ sl i, (s.auxAt sl).parkTimer = none → s.restoreParked sl i = s) ∧
    (∀ n, s.arbiter.settle = .running n → ∃ t, exec .settleTimerExpiry s = .next t ∧
      t.arbiter = { s.arbiter with settle := .expired, headless := s.arbiter.holder = none } ∧
      ({ t with arbiter := s.arbiter, alarms := s.alarms, queues := s.queues, counts := s.counts }
        : State) = s) ∧
    ((∀ n, s.arbiter.settle ≠ .running n) → exec .settleTimerExpiry s = .next s)

/-- ENABLE PORTS and DISABLE PORTS set the admin state of every row of the range and report each row; and the
bring-up of one row through the checks of R94 in their order (R95), with the pool's and the ledger's answers
(R82, R41). Model's choices: assumption 4. -/
def Obligations.PortAdminTakesEveryRow : Prop :=
  ∀ (s : State) (h : Header) (first last : Nat), s.Passes .configure h → s.agenda = [] →
    (383 < last ∨ last < first →
      exec (.enablePorts h first last) s = .next (s.answered h .invalid .none) ∧
      exec (.disablePorts h first last) s = .next (s.answered h .invalid .none)) ∧
    (last ≤ 383 → first ≤ last → ∀ v : Bool, ∀ i,
      i = (if v then Instr.enablePorts h first last else Instr.disablePorts h first last) →
      ∃ t rs, exec i s = .next t ∧
        rs.map (fun r : RowReport => r.global) = List.range' first (last + 1 - first) ∧
        (v = true → ∀ r ∈ rs, r.cond ≠ .down .adminDown) ∧
        (v = false → ∀ r ∈ rs, RowCond.live r.cond = false) ∧
        t.lasting = State.lasting (({ s with
          rows := Vector.ofFn fun sl => Vector.ofFn fun k => { s.rowAt ⟨sl, k⟩ with
            admin := if first ≤ Port.global ⟨sl, k⟩ ∧ Port.global ⟨sl, k⟩ ≤ last then v
              else (s.rowAt ⟨sl, k⟩).admin }
          store := { s.store with
            dirty := if allPorts.any (fun p => decide (first ≤ Port.global p) &&
                decide (Port.global p ≤ last) && decide ((s.rowAt p).admin ≠ v)) then
              put s.store.dirty 0 true else s.store.dirty } } : State).answered h .ok (.rows rs))) ∧
    -- checks 1 to 3
    (∀ p, s.firstFail p =
      if (s.auxAt p.slot).powered = false then some .bladeOff
      else if (s.rowAt p).admin = false then some .adminDown
      else if (s.auxAt p.slot).admits = false then some .zoneHold
      else none) ∧
    -- the pool's answer, and whether the unit was taken from NONE
    (∀ p,
      ((s.rowAt p).cls ≠ .pool → s.unitAnswer p = none) ∧
      ((s.rowAt p).cls = .pool → (s.rowAt p).unit = .assigned → s.unitAnswer p = some false) ∧
      ((s.rowAt p).cls = .pool → (s.rowAt p).unit = .none →
        s.unitAnswer p = if s.unitsInUse < s.pool.capacity then some true else none)) ∧
    -- the ledger's answer
    (∀ p, s.grantAnswer p false = true ↔
      look s.ledger.charged p.slot = true ∧ ((s.rowAt p).grant = true ∨
        (s.ledger.overcommit = .closed ∧
          0 ≤ s.ledger.headroom - ((s.bladeOf p.slot).allocation : Int)))) ∧
    -- one row evaluated
    (∀ p t, t = s.evaluate p →
      (∀ q, q ≠ p → t.rowAt q = s.rowAt q) ∧
      ((∀ r, (s.rowAt p).cond ≠ .down r) → t = s) ∧
      (∀ r₀, (s.rowAt p).cond = .down r₀ →
        (∀ r, s.firstFail p = some r → t.rowAt p = { s.rowAt p with cond := .down r }) ∧
        (s.firstFail p = none →
          ((s.rowAt p).cls = .pool → s.unitAnswer p = none →
            t.rowAt p = { s.rowAt p with cond := .down .unlicensed }) ∧
          ((s.rowAt p).cls ≠ .pool ∨ s.unitAnswer p ≠ none →
            (s.grantAnswer p false = false →
              t.rowAt p = { s.rowAt p with cond := .down .noPower }) ∧
            (s.grantAnswer p false = true →
              t.rowAt p = { s.rowAt p with
                unit := if (s.rowAt p).cls = .pool then .assigned else (s.rowAt p).unit
                grant := true
                cond := .enabling } ∧
              ((s.slotAt p.slot).state = .powering ∨ (s.slotAt p.slot).state = .powered →
                Asked s t (.portCommand p true)))))))

/-- The outcome of the running blade command: a reply ends it, a timeout faults the blade. Model's
choices: assumption 4. -/
def Obligations.BladeCommandOutcomes : Prop :=
  ∀ (s : State) (r : Running), s.bus.running = some r → r.withdrawn = false → s.agenda = [] →
    (∀ sl, r.txn = .powerEnable sl →
      exec (.powerEnableReply sl) s = .next s.freeBus ∧
      exec .bladeCommandTimeout s = .next (s.leavePower sl .faulted .commandTimeout).settle.freeBus) ∧
    (∀ p, r.txn = .portCommand p true →
      ∃ t, exec (.portEnableReply p) s = .next t ∧
        t.auxAt p.slot = { s.auxAt p.slot with enabled := put (s.auxAt p.slot).enabled p.idx true } ∧
        t.rowAt p = { s.rowAt p with
          cond := if (s.rowAt p).cond = .enabling then .up else (s.rowAt p).cond } ∧
        (∀ q, q ≠ p → t.rowAt q = s.rowAt q) ∧
        (∀ sl, sl ≠ p.slot → t.auxAt sl = s.auxAt sl) ∧
        t.bus = s.freeBus.bus ∧ t.lasting = s.lasting ∧ t.slots = s.slots ∧ t.ledger = s.ledger ∧
        t.zoning = s.zoning ∧ t.cooling = s.cooling ∧ t.trays = s.trays) ∧
    (∀ p, r.txn = .portCommand p false →
      exec (.portDisableReply p) s = .next (s.setAux p.slot { s.auxAt p.slot with
        enabled := put (s.auxAt p.slot).enabled p.idx false }).freeBus) ∧
    (∀ p v, r.txn = .portCommand p v →
      exec .bladeCommandTimeout s =
        .next (s.leavePower p.slot .faulted .commandTimeout).settle.freeBus) ∧
    (∀ pos, exec (.untakenReply pos) s = .next s) ∧
    s.freeBus.bus.running.map (·.txn) = nextTxn s.bus.waiting ∧
    (∀ x, nextTxn s.bus.waiting = some x → s.freeBus.bus.waiting = s.bus.waiting.erase x)

/-! ## Zoning -/

/-- OPEN TRANSACTION copies the defined database; ABORT TRANSACTION discards the staging database; COMMIT
starts a validation and stays outstanding. Model's choices: assumptions 19 and 35. -/
def Obligations.TransactionsOpenAbortAndCommit : Prop :=
  ∀ (s : State) (h : Header) (c : Ctl), s.Passes .configure h → h.link = c.link →
    (s.zoning.txn ≠ none → exec (.openTransaction h) s = .next (s.answered h .inUse .none)) ∧
    (s.zoning.txn = none → s.zoning.phase = .saving ∨ s.zoning.phase = .distributing →
      exec (.openTransaction h) s = .next (s.answered h .busy .none)) ∧
    (s.zoning.txn = none → s.zoning.phase = .idle ∨ s.zoning.phase = .validating →
      exec (.openTransaction h) s =
        .next (({ s with
          zoning := { s.zoning with txn := some ⟨c, s.arbiter.epoch, 0, s.zoning.defined⟩ }
          counts := put (put s.counts 7 (look s.counts 7 + 1)) 9 (look s.counts 9 + 1) }
            : State).answered h .ok (.opened s.arbiter.epoch s.zoning.defined.zoneDefs.length
              s.zoning.defined.memberCount s.zoning.defined.configDefs.length))) ∧
    (s.zoning.txn = none →
      exec (.abortTransaction h) s = .next (s.answered h .noTransaction .none) ∧
      exec (.commit h) s = .next (s.answered h .noTransaction .none)) ∧
    (∀ x, s.zoning.txn = some x → x.owner ≠ c →
      exec (.abortTransaction h) s = .next (s.answered h .notOwner .none) ∧
      exec (.commit h) s = .next (s.answered h .notOwner .none)) ∧
    (∀ x, s.zoning.txn = some x → x.owner = c →
      (s.zoning.phase = .validating →
        exec (.abortTransaction h) s = .next (s.answered h .busy .none)) ∧
      (s.zoning.phase ≠ .validating →
        exec (.abortTransaction h) s =
          .next (({ s with
            zoning := { s.zoning with txn := none }
            counts := put (put s.counts 7 (look s.counts 7 + 1)) 9 (look s.counts 9 + 1)
            queues := s.queues.map fun q => q.offer .transactionAborted c.code 1 (u16 x.edits)
              s.arbiter.epoch } : State).answered h .ok (.value x.edits))) ∧
      (s.holdEffective .zoningFreeze = true →
        exec (.commit h) s = .next (s.answered h .frozen .none)) ∧
      (s.holdEffective .zoningFreeze = false →
        exec (.commit h) s = .next (State.setLink h.link
          { s.linkAt h.link with outstanding := some ⟨h.tag, .commit⟩ }
          { s with zoning := { s.zoning with phase := .validating, requester := c } })))

/-- The five edits of the zone table and the member lists, with the answers of their own tests. -/
def Obligations.ZoneEditsTakeEffect : Prop :=
  ∀ (s : State) (h : Header) (x : Transaction), s.EditReady h x →
    -- CREATE ZONE
    (∀ n, nameOk n = false → exec (.createZone h n) s = .next (s.answered h .invalid .none)) ∧
    (∀ n, nameOk n = true →
      ((∃ i d, look x.db.zones i = some d ∧ d.name = n) →
        exec (.createZone h n) s = .next (s.answered h .duplicate .none)) ∧
      ((¬∃ i d, look x.db.zones i = some d ∧ d.name = n) →
        ((∀ i, look x.db.zones i ≠ none) →
          exec (.createZone h n) s = .next (s.answered h .full .none)) ∧
        (∀ i, look x.db.zones i = none → (∀ j, j < i → look x.db.zones j ≠ none) →
          exec (.createZone h n) s = .next (s.afterEdit h x .zoneStaged
            { x.db with zones := put x.db.zones i (some ⟨n, []⟩) } (.value i.val))))) ∧
    -- RENAME ZONE, DELETE ZONE, ADD MEMBER, REMOVE MEMBER: malformed operands
    (∀ z n, 512 ≤ z ∨ nameOk n = false →
      exec (.renameZone h z n) s = .next (s.answered h .invalid .none)) ∧
    (∀ z, 512 ≤ z → exec (.deleteZone h z) s = .next (s.answered h .invalid .none)) ∧
    (∀ z m, 512 ≤ z ∨ memberOf m = none →
      exec (.addMember h z m) s = .next (s.answered h .invalid .none) ∧
      exec (.removeMember h z m) s = .next (s.answered h .invalid .none)) ∧
    -- an unused entry
    (∀ i : Fin 512, look x.db.zones i = none →
      (∀ n, nameOk n = true → exec (.renameZone h i.val n) s = .next (s.answered h .notFound .none)) ∧
      exec (.deleteZone h i.val) s = .next (s.answered h .notFound .none) ∧
      (∀ m y, memberOf m = some y →
        exec (.addMember h i.val m) s = .next (s.answered h .notFound .none) ∧
        exec (.removeMember h i.val m) s = .next (s.answered h .notFound .none))) ∧
    -- an entry in use
    (∀ (i : Fin 512) (d : ZoneDef), look x.db.zones i = some d →
      (∀ n, nameOk n = true →
        ((∃ j e, j ≠ i ∧ look x.db.zones j = some e ∧ e.name = n) →
          exec (.renameZone h i.val n) s = .next (s.answered h .duplicate .none)) ∧
        ((¬∃ j e, j ≠ i ∧ look x.db.zones j = some e ∧ e.name = n) →
          (d.name = n → exec (.renameZone h i.val n) s = .next (s.answered h .ok (.value i.val))) ∧
          (d.name ≠ n → exec (.renameZone h i.val n) s = .next (s.afterEdit h x .zoneStaged
            { x.db with zones := put x.db.zones i (some ⟨n, d.members⟩) } (.value i.val))))) ∧
      ((∃ j c, look x.db.configs j = some c ∧ i ∈ c.zones) →
        exec (.deleteZone h i.val) s = .next (s.answered h .inUse .none)) ∧
      ((¬∃ j c, look x.db.configs j = some c ∧ i ∈ c.zones) →
        exec (.deleteZone h i.val) s = .next (s.afterEdit h x .zoneStaged
          { x.db with zones := put x.db.zones i none }
          (.value (x.db.memberCount - d.members.length : Nat)))) ∧
      (∀ m y, memberOf m = some y →
        (y ∈ d.members → exec (.addMember h i.val m) s = .next (s.answered h .duplicate .none)) ∧
        (y ∉ d.members → 64 ≤ d.members.length ∨ 4096 ≤ x.db.memberCount →
          exec (.addMember h i.val m) s = .next (s.answered h .full .none)) ∧
        (y ∉ d.members → d.members.length < 64 → x.db.memberCount < 4096 →
          exec (.addMember h i.val m) s = .next (s.afterEdit h x .zoneStaged
            { x.db with zones := put x.db.zones i (some ⟨d.name, d.members ++ [y]⟩) }
            (.values (d.members.length + 1) (x.db.memberCount + 1)))) ∧
        (y ∉ d.members → exec (.removeMember h i.val m) s = .next (s.answered h .notFound .none)) ∧
        (y ∈ d.members → exec (.removeMember h i.val m) s = .next (s.afterEdit h x .zoneStaged
          { x.db with zones := put x.db.zones i (some ⟨d.name, d.members.erase y⟩) }
          (.values (d.members.length - 1 : Nat) (x.db.memberCount - 1 : Nat))))))

/-- The six edits of the configuration table, the selection and the default access. -/
def Obligations.ConfigurationEditsTakeEffect : Prop :=
  ∀ (s : State) (h : Header) (x : Transaction), s.EditReady h x →
    -- CREATE CONFIGURATION
    (∀ n z, nameOk n = false ∨ 512 ≤ z →
      exec (.createConfiguration h n z) s = .next (s.answered h .invalid .none)) ∧
    (∀ n (i : Fin 512), nameOk n = true →
      (look x.db.zones i = none →
        exec (.createConfiguration h n i.val) s = .next (s.answered h .notFound .none)) ∧
      (look x.db.zones i ≠ none → (∃ c d, look x.db.configs c = some d ∧ d.name = n) →
        exec (.createConfiguration h n i.val) s = .next (s.answered h .duplicate .none)) ∧
      (look x.db.zones i ≠ none → (¬∃ c d, look x.db.configs c = some d ∧ d.name = n) →
        ((∀ c, look x.db.configs c ≠ none) →
          exec (.createConfiguration h n i.val) s = .next (s.answered h .full .none)) ∧
        (∀ c, look x.db.configs c = none → (∀ e, e < c → look x.db.configs e ≠ none) →
          exec (.createConfiguration h n i.val) s = .next (s.afterEdit h x .configStaged
            { x.db with configs := put x.db.configs c (some ⟨n, [i]⟩) } (.value c.val))))) ∧
    -- DELETE CONFIGURATION
    (∀ c, 8 ≤ c → exec (.deleteConfiguration h c) s = .next (s.answered h .invalid .none)) ∧
    (∀ c : Fin 8,
      (look x.db.configs c = none →
        exec (.deleteConfiguration h c.val) s = .next (s.answered h .notFound .none)) ∧
      (look x.db.configs c ≠ none → x.db.selection = some c →
        exec (.deleteConfiguration h c.val) s = .next (s.answered h .inUse .none)) ∧
      (look x.db.configs c ≠ none → x.db.selection ≠ some c →
        exec (.deleteConfiguration h c.val) s = .next (s.afterEdit h x .configStaged
          { x.db with configs := put x.db.configs c none } .none))) ∧
    -- ADD ZONE TO CONFIGURATION, REMOVE ZONE FROM CONFIGURATION
    (∀ c z, 8 ≤ c ∨ 512 ≤ z →
      exec (.addZoneToConfiguration h c z) s = .next (s.answered h .invalid .none) ∧
      exec (.removeZoneFromConfiguration h c z) s = .next (s.answered h .invalid .none)) ∧
    (∀ (c : Fin 8) (k : Fin 512),
      (look x.db.configs c = none ∨ look x.db.zones k = none →
        exec (.addZoneToConfiguration h c.val k.val) s = .next (s.answered h .notFound .none)) ∧
      (look x.db.configs c = none →
        exec (.removeZoneFromConfiguration h c.val k.val) s = .next (s.answered h .notFound .none)) ∧
      ∀ d, look x.db.configs c = some d →
        (look x.db.zones k ≠ none →
          (k ∈ d.zones →
            exec (.addZoneToConfiguration h c.val k.val) s = .next (s.answered h .duplicate .none)) ∧
          (k ∉ d.zones → 256 ≤ d.zones.length →
            exec (.addZoneToConfiguration h c.val k.val) s = .next (s.answered h .full .none)) ∧
          (k ∉ d.zones → d.zones.length < 256 →
            exec (.addZoneToConfiguration h c.val k.val) s = .next (s.afterEdit h x .configStaged
              { x.db with configs := put x.db.configs c (some ⟨d.name, d.zones ++ [k]⟩) }
              (.value (d.zones.length + 1))))) ∧
        (k ∉ d.zones →
          exec (.removeZoneFromConfiguration h c.val k.val) s = .next (s.answered h .notFound .none)) ∧
        (d.zones = [k] →
          exec (.removeZoneFromConfiguration h c.val k.val) s = .next (s.answered h .inUse .none)) ∧
        (k ∈ d.zones → d.zones.length ≠ 1 →
          exec (.removeZoneFromConfiguration h c.val k.val) s = .next (s.afterEdit h x .configStaged
            { x.db with configs := put x.db.configs c (some ⟨d.name, d.zones.erase k⟩) }
            (.value (d.zones.length - 1 : Nat))))) ∧
    -- SELECT ACTIVE CONFIGURATION
    (∀ c, 8 ≤ c →
      exec (.selectActiveConfiguration h (some c)) s = .next (s.answered h .invalid .none)) ∧
    (∀ c : Fin 8, look x.db.configs c = none →
      exec (.selectActiveConfiguration h (some c.val)) s = .next (s.answered h .notFound .none)) ∧
    (∀ v : Option (Fin 8), (∀ c, v = some c → look x.db.configs c ≠ none) →
      (x.db.selection = v →
        exec (.selectActiveConfiguration h (v.map (·.val))) s = .next (s.answered h .ok .none)) ∧
      (x.db.selection ≠ v →
        exec (.selectActiveConfiguration h (v.map (·.val))) s =
          .next (s.afterEdit h x .configStaged { x.db with selection := v } .none))) ∧
    -- SET DEFAULT ACCESS
    exec (.setDefaultAccess h none) s = .next (s.answered h .invalid .none) ∧
    exec (.setDefaultAccess h (some x.db.access)) s = .next (s.answered h .ok .none) ∧
    ∀ a, a ≠ x.db.access →
      exec (.setDefaultAccess h (some a)) s =
        .next (s.afterEdit h x .configStaged { x.db with access := a } .none)

/-- VALIDATION_COMPLETE: the tests in their order, and the commit that passes. Model's choices:
assumptions 19 and 35. -/
def Obligations.ValidationJudgesTheCommit : Prop :=
  ∀ (s : State) (x : Transaction), s.zoning.txn = some x → s.zoning.phase = .validating →
    ∀ (k : Link) (o : Outstanding), k = s.linkAt x.owner.link → k.outstanding = some o →
      o.kind = .commit →
    ∀ failed : Status → Results → State,
    failed = (fun st r => State.setLink x.owner.link
      { k with outstanding := none, response := some ⟨o.tag, st, r⟩ }
      { s with zoning := { s.zoning with phase := .idle } }) →
    (s.holdEffective .zoningFreeze = true →
      exec .validationComplete s = .next (failed .frozen .none)) ∧
    (s.holdEffective .zoningFreeze = false →
      (∀ z, x.db.emptyZone = some z →
        exec .validationComplete s = .next (failed .validationFailed (.validation 1 z.val))) ∧
      (x.db.emptyZone = none →
        (∀ sl, s.tooLarge x.db = some sl →
          exec .validationComplete s = .next (failed .validationFailed (.validation 2 (sl.val + 1)))) ∧
        (s.tooLarge x.db = none →
          ∀ (changed : Bool) (gen : Word), changed = decide (x.db.effective ≠ s.zoning.active) →
            gen = (if changed then s.zoning.activeGen + 1 else s.zoning.activeGen) →
          ∃ t, exec .validationComplete s = .next t ∧
            t.zoning = { s.zoning with
              defined := x.db, txn := none, changed := changed, commitGen := gen, saved := .pending
              phase := .saving } ∧
            t.store = { s.store with dirty := put s.store.dirty 2 true } ∧
            t.links = put s.links (LinkId.idx x.owner.link)
              { k with outstanding := none, response := some ⟨o.tag, .ok, .committed gen changed⟩ } ∧
            (∀ tb ∈ [Table.zoneDefined, .configDefined, .zoneStaged, .configStaged],
              t.countOf tb = s.countOf tb + 1) ∧
            ({ t with
              zoning := s.zoning, store := s.store, links := s.links, counts := s.counts
              queues := s.queues } : State) = s)))

/-- The zoning engine once a slot has left the wait set: the commit is IDLE when it was the last one (R134). -/
def leftZoning (s : State) (sl : Slot) : Zoning :=
  if look s.zoning.waitSet sl then
    { s.zoning with
      waitSet := put s.zoning.waitSet sl false
      phase := if s.zoning.phase = .distributing ∧ anySet (put s.zoning.waitSet sl false) = false then .idle
        else s.zoning.phase }
  else s.zoning

/-- The outcome of a push according to the slot's state, the re-push timer, and the end of a distribution when
its wait set empties. Model's choices: assumptions 8, 18, 43 and 44. -/
def Obligations.PushOutcomesFollowTheSlotState : Prop :=
  ∀ (s : State) (sl : Slot),
    (∀ r, s.bus.running = some r → r.txn = .push sl → r.withdrawn = false →
      (∀ gen, exec (.pushReply sl gen) s =
          .next (s.pushOutcome sl r.gen (some gen)).settle.freeBus ∧
        (s.pushOutcome sl r.gen (some gen)).settle.freeBus.lasting = s.lasting) ∧
      exec .pushTimeout s = .next (s.pushOutcome sl r.gen none).settle.freeBus ∧
      (s.pushOutcome sl r.gen none).settle.freeBus.lasting = s.lasting) ∧
    (∀ (pushed : Word) (reply : Option Word) (t : State) (e : SlotEntry),
      t = s.pushOutcome sl pushed reply → e = s.slotAt sl →
      (e.enforcement = .previous ∨ e.enforcement = .pending →
        (reply = some pushed → pushed = s.zoning.activeGen →
          t.slotAt sl = { e with enforcement := .current } ∧
            (t.auxAt sl).repushTimer = (s.auxAt sl).repushTimer ∧
            t.zoning = (if e.enforcement = .previous then leftZoning s sl else s.zoning) ∧
            (e.enforcement = .pending → (t.auxAt sl).admits = true)) ∧
        (reply = some pushed → pushed ≠ s.zoning.activeGen →
          t.slotAt sl = { e with attempt := 1 } ∧ Asked s t (.push sl)) ∧
        (reply ≠ some pushed → e.attempt ≤ 1 →
          t.slotAt sl = { e with attempt := 2 } ∧ Asked s t (.push sl)) ∧
        (reply ≠ some pushed → 2 ≤ e.attempt →
          t.slotAt sl = { e with enforcement := .stale, attempt := 0 } ∧
            (t.auxAt sl).repushTimer = some 30000 ∧
            t.zoning = (if e.enforcement = .previous then leftZoning s sl else s.zoning) ∧
            (e.enforcement = .previous → (t.auxAt sl).admits = false))) ∧
      (e.enforcement = .stale →
        (reply = some pushed → pushed = s.zoning.activeGen →
          t.slotAt sl = { e with enforcement := .current } ∧ (t.auxAt sl).repushTimer = none ∧
            (t.auxAt sl).admits = true) ∧
        (reply = some pushed → pushed ≠ s.zoning.activeGen →
          t.slotAt sl = e ∧ (t.auxAt sl).repushTimer = none ∧ Asked s t (.push sl)) ∧
        (reply ≠ some pushed → t.slotAt sl = e ∧ (t.auxAt sl).repushTimer = some 30000)) ∧
      (e.enforcement = .none ∨ e.enforcement = .current ∨ e.enforcement = .tooSmall → t = s)) ∧
    -- the last slot leaves the wait set
    (look s.zoning.waitSet sl = true → s.zoning.phase = .distributing →
      (∀ k, k ≠ sl → look s.zoning.waitSet k = false) →
      s.leaveWaitSet sl = (({ s with zoning := leftZoning s sl } : State).report .commitDone
        (if s.zoning.saved = SavedFlag.yes then 1 else 0)
        (u16 (s.slots.toList.countP fun e => e.enforcement = .current))
        (u16 (s.slots.toList.countP fun e => e.enforcement = .stale))).completionWalk) ∧
    ((s.auxAt sl).repushTimer ≠ none → ∃ t, exec (.repushTimerExpiry sl) s = .next t ∧
      t.aux = put s.aux sl { s.auxAt sl with repushTimer := none } ∧ Asked s t (.push sl) ∧
      ({ t with aux := s.aux, bus := s.bus } : State) = s) ∧
    ((s.auxAt sl).repushTimer = none → exec (.repushTimerExpiry sl) s = .next s)

/-! ## Roles and holds -/

/-- CLAIM ACTIVE by the link's standing, and DECLARE STANDBY. -/
def Obligations.ClaimAndDeclareFollowTheStanding : Prop :=
  ∀ (s : State) (h : Header) (c : Ctl), s.Passes .claim h → h.link = c.link →
    (s.arbiter.holder = none → ¬(s.arbiter.epoch < 4294967294) →
      exec (.claimActive h) s = .next (s.answered h .full
        (.claim s.arbiter.epoch none s.settings.leaseTime))) ∧
    (s.arbiter.holder = none → s.arbiter.epoch < 4294967294 →
      ∃ t, exec (.claimActive h) s = .next t ∧
        t.arbiter = { s.arbiter with
          standing := put s.arbiter.standing c.idx ⟨.active, (s.standingOf c).ready⟩
          holder := some c
          epoch := s.arbiter.epoch + 1
          leaseTimer := some s.settings.leaseTime
          headless := false } ∧
        ({ t with arbiter := s.arbiter, alarms := s.alarms, queues := s.queues, counts := s.counts }
          : State) =
          s.answered h .ok (.claim (s.arbiter.epoch + 1) (some c) s.settings.leaseTime)) ∧
    (s.arbiter.holder = some c →
      exec (.claimActive h) s = .next (({ s with arbiter := { s.arbiter with
        leaseTimer := some s.settings.leaseTime } } : State).answered h .ok
          (.claim s.arbiter.epoch (some c) s.settings.leaseTime)) ∧
      ∀ ready, exec (.declareStandby h ready) s = .next (s.answered h .inUse .none)) ∧
    (s.arbiter.holder = some c.other →
      ∃ t, exec (.claimActive h) s = .next t ∧
        t.arbiter = { s.arbiter with
          standing := put s.arbiter.standing c.idx ⟨.standby, (s.standingOf c).ready⟩ } ∧
        ({ t with arbiter := s.arbiter, queues := s.queues } : State) =
          s.answered h .heldByPeer (.claim s.arbiter.epoch (some c.other) s.settings.leaseTime)) ∧
    (s.arbiter.holder ≠ some c → ∀ ready,
      ∃ t, exec (.declareStandby h ready) s = .next t ∧
        t.arbiter = { s.arbiter with standing := put s.arbiter.standing c.idx ⟨.standby, ready⟩ } ∧
        ({ t with arbiter := s.arbiter, queues := s.queues } : State) =
          s.answered h .ok (.roles s.arbiter.epoch s.arbiter.holder))

/-- RENEW restarts the holder's lease; it is refused on a stale epoch, and to a link without the role. -/
def Obligations.RenewRestartsTheLease : Prop :=
  ∀ (s : State) (h : Header) (c : Ctl), h.link = c.link → (s.linkAt h.link).up = true →
    (s.linkAt h.link).outstanding = none → s.dev.phase = .running → h.sized = true →
    (h.epoch = s.arbiter.epoch → (s.standingOf c).role = .active →
      exec (.renew h) s = .next (({ s with arbiter := { s.arbiter with
        leaseTimer := some s.settings.leaseTime } } : State).answered h .ok
          (.renewal s.arbiter.epoch s.settings.leaseTime))) ∧
    (h.epoch = s.arbiter.epoch → (s.standingOf c).role ≠ .active →
      exec (.renew h) s =
        .next (s.answered h .notActive (.roles s.arbiter.epoch s.arbiter.holder))) ∧
    (h.epoch ≠ s.arbiter.epoch →
      exec (.renew h) s =
        .next (s.answered h .staleEpoch (.roles s.arbiter.epoch s.arbiter.holder)))

/-- The links once a holding has ended: a COMMIT of the old holder still in validation is answered NOT_ACTIVE
(R122), and nothing else changes. -/
def endedLinks (s : State) (c : Ctl) : Vector Link 3 :=
  match (s.linkAt c.link).outstanding with
  | some o =>
    if s.zoning.txn.map (·.owner) = some c ∧ s.zoning.phase = .validating ∧ o.kind = .commit then
      put s.links (LinkId.idx c.link) { s.linkAt c.link with
        outstanding := none
        response := some ⟨o.tag, .notActive, .roles (s.arbiter.epoch + 1) none⟩ }
    else s.links
  | none => s.links

/-- YIELD ACTIVE, RELEASE ACTIVE and the lease's expiry end the holding by the six steps, and each answers a
COMMIT of the old holder still in validation; RELEASE ACTIVE with no holder is answered NOT_ACTIVE and
changes nothing (R148). Model's choices: assumptions 8 and 18. -/
def Obligations.HoldingEndsByTheSixSteps : Prop :=
  (∀ (s : State) (h : Header), s.Passes .release h → s.arbiter.holder = none →
    exec (.releaseActive h) s = .next (s.answered h .notActive (.roles s.arbiter.epoch none))) ∧
  ∀ (s : State) (c : Ctl), s.arbiter.holder = some c →
    (∀ h (r : Right) (i : Instr), s.Passes r h →
      (r = .keep ∧ i = .yieldActive h) ∨ (r = .release ∧ i = .releaseActive h) →
      ∃ t, exec i s = .next t ∧
        t.arbiter = s.endedArbiter c .standby ∧ t.zoning = s.endedZoning c ∧ s.sameButReports t ∧
        t.links = put (endedLinks s c) (LinkId.idx h.link)
          { look (endedLinks s c) (LinkId.idx h.link) with
            response := some ⟨h.tag, .ok, .roles t.arbiter.epoch t.arbiter.holder⟩ }) ∧
    (s.arbiter.leaseTimer ≠ none → ∃ t, exec .leaseTimerExpiry s = .next t ∧
      t.arbiter = s.endedArbiter c .detached ∧ t.zoning = s.endedZoning c ∧ s.sameButReports t ∧
      t.links = endedLinks s c) ∧
    (s.arbiter.leaseTimer = none → exec .leaseTimerExpiry s = .next s)

/-- SET HOLD and RELEASE HOLD act on the link's own latch, with a HOLD_CHANGE event when it changes; an override
coming into effect raises the trays. Model's choices: assumption 20 (a raise writes a zone's target only when
some tray stands below it). -/
def Obligations.HoldsActOnTheOwnLatch : Prop :=
  ∀ (s : State) (h : Header), s.Passes .hold h →
    exec (.setHold h none) s = .next (s.answered h .invalid .none) ∧
    exec (.releaseHold h none) s = .next (s.answered h .invalid .none) ∧
    ∀ (k : HoldKind) (v : Bool) (i : Instr),
      i = (if v then Instr.setHold h (some k) else Instr.releaseHold h (some k)) →
      ∃ t, exec i s = .next t ∧
        t.arbiter = { s.arbiter with latches := put s.arbiter.latches (LinkId.idx h.link)
                                       ((s.latchesOf h.link).set k v) } ∧
        t.links = put s.links (LinkId.idx h.link) { s.linkAt h.link with
          response := some ⟨h.tag, .ok, .hold (t.holdEffective k)
            (t.arbiter.latches.map fun y => y.get k)⟩ } ∧
        t.queues = (if (s.latchesOf h.link).get k = v then s.queues
          else s.queues.map fun q => q.offer .holdChange (HoldKind.code k) (LinkId.code h.link)
            (u16 ((if v then 1 else 0) + if t.holdEffective k then 2 else 0)) s.arbiter.epoch) ∧
        (∀ raised : Bool,
          raised = decide (k = .coolingOverride ∧ v = true ∧ s.holdEffective k = false) →
          (∀ tr, t.trayAt tr = { s.trayAt tr with
            duty := if raised then raisedDuty s s.settings.trayMin true tr else (s.trayAt tr).duty }) ∧
          (∀ z, t.zoneAt z = if raised then raisedZone s s.settings.trayMin true z else s.zoneAt z)) ∧
        t.cooling.slots = s.cooling.slots ∧ t.cooling.cps = s.cooling.cps ∧
        ({ t with
          arbiter := s.arbiter, queues := s.queues, trays := s.trays, cooling := s.cooling
          counts := s.counts, links := s.links } : State) = s

/-! ## Alarms and event queues -/

/-- ACKNOWLEDGE ALARM moves the named points, CUT OFF AUDIBLE silences; neither touches a condition. -/
def Obligations.AlarmRequestsActOnThePoints : Prop :=
  ∀ (s : State) (h : Header), s.Passes .alarm h →
    (∀ n, 57 ≤ n → exec (.acknowledgeAlarm h (.point n)) s = .next (s.answered h .invalid .none)) ∧
    (∀ n : Fin 57, ∃ t, exec (.acknowledgeAlarm h (.point n.val)) s = .next t ∧
      t.alarms.points = put s.alarms.points n (look s.alarms.points n).onAck ∧
      t.alarms.cutoff = s.alarms.cutoff ∧ t.alarms.recording = s.alarms.recording ∧
      ((look s.alarms.points n).onAck = look s.alarms.points n → t.queues = s.queues) ∧
      ({ t with alarms := s.alarms, queues := s.queues, counts := s.counts } : State) =
        s.answered h .ok (.point (look s.alarms.points n).onAck)) ∧
    (∃ t, exec (.acknowledgeAlarm h .all) s = .next t ∧
      (∀ n, look t.alarms.points n = (look s.alarms.points n).onAck) ∧
      t.alarms.cutoff = s.alarms.cutoff ∧
      ({ t with alarms := s.alarms, queues := s.queues, counts := s.counts } : State) =
        s.answered h .ok (.value ((allFin 57).countP fun n =>
          decide ((look s.alarms.points n).onAck ≠ look s.alarms.points n) : Nat))) ∧
    (∃ t, exec (.cutOffAudible h) s = .next t ∧
      t.alarms.points = s.alarms.points ∧ t.alarms.cutoff = true ∧ t.alarms.audible = false ∧
      t.alarms.recording = s.alarms.recording ∧ t.alarms.recorded = s.alarms.recorded ∧
      ({ t with alarms := s.alarms } : State) = s.answered h .ok .none)

/-- FETCH EVENTS removes and returns the oldest records; SET QUEUE DEPTH is taken in its three steps. -/
def Obligations.QueueRequestsFetchAndDeepen : Prop :=
  ∀ (s : State) (h : Header) (q : EventQueue), s.Passes .read h → q = s.queueAt h.link →
    (∀ n, n = 0 ∨ 16 < n → exec (.fetchEvents h n) s = .next (s.answered h .invalid .none)) ∧
    (∀ n, 1 ≤ n → n ≤ 16 → exec (.fetchEvents h n) s =
      .next ((s.setQueue h.link { q with
        records := q.records.drop n
        marker := q.marker && decide (n < q.records.length)
        attention := decide (n < q.records.length) }).answered h .ok
          (.events (q.records.length - n) (q.records.take n)))) ∧
    (∀ d v, v = max 8 (min 240 d) →
      (q.records ≠ [] → exec (.setQueueDepth h d) s = .next (s.answered h .notEmpty .none)) ∧
      (q.records = [] → 256 < v + s.otherDepths h.link →
        exec (.setQueueDepth h d) s = .next (s.answered h .full .none)) ∧
      (q.records = [] → v + s.otherDepths h.link ≤ 256 →
        exec (.setQueueDepth h d) s = .next ((s.setQueue h.link { q with depth := v }).answered h
          (if v = d then .ok else .adjusted) (.value v))))

/-- SET EVENT MASK applies the set as given; ALARM passes every mask; records queued stay; the defaults. -/
def Obligations.SetEventMaskAppliesTheSet : Prop :=
  (∀ (s : State) (h : Header) (m : ClassMask), s.Passes .read h →
    exec (.setEventMask h m) s =
      .next ((s.setQueue h.link { s.queueAt h.link with mask := m }).answered h .ok (.mask m))) ∧
  (∀ (q : EventQueue) (x a b : Half) (e : Word),
    q.offer .alarmChange x a b e = q.place .alarmChange x a b e) ∧
  (∀ (q : EventQueue) (k : EventKind) (x a b : Half) (e : Word), k.cls ≠ .alarm →
    q.offer k x a b e = if ClassMask.holds q.mask k.cls then q.place k x a b e else q) ∧
  (State.reset.queueAt .linkA).mask = ⟨true, true, true, true, true, true, true, true⟩ ∧
  (State.reset.queueAt .linkB).mask = ⟨true, true, true, true, true, true, true, true⟩ ∧
  (State.reset.queueAt .service).mask = ⟨true, false, false, false, false, false, true, true⟩

/-! ## Presence, identity and polls -/

/-- The presence lines: the debounce of an input, and the presence taken or lost at its expiry. Model's
choices: assumptions 8, 9 and 34. -/
def Obligations.PresenceIsDebouncedAndTaken : Prop :=
  ∀ (s : State) (pos : Position) (k : PosCtl), k = s.ctlAt pos →
    (∀ v, v = k.input → exec (.presenceInputChange pos v) s = .next s) ∧
    (∀ v, v ≠ k.input → exec (.presenceInputChange pos v) s = .next (s.setCtl pos { k with
      input := v
      debounce := if k.judged = true ∧ v = k.taken then none else some ⟨100, v⟩ })) ∧
    (k.debounce = none → exec (.debounceTimerExpiry pos) s = .next s) ∧
    (∀ d, k.debounce = some d → s.agenda = [] →
      ∀ k' : PosCtl, k' = { k with taken := d.candidate, debounce := none, judged := true } →
      -- the presence stays as it is
      (d.candidate = true → k.taken = true ∨ s.vacant pos = false →
        exec (.debounceTimerExpiry pos) s = .next (s.setCtl pos k')) ∧
      (d.candidate = false → k.taken = false → ∃ t, exec (.debounceTimerExpiry pos) s = .next t ∧
        ({ t with aux := s.aux, alarms := s.alarms, queues := s.queues, counts := s.counts } : State) =
          s.setCtl pos k') ∧
      -- presence taken at a vacant position
      (d.candidate = true → k.taken = false → s.vacant pos = true →
        ∃ t, exec (.debounceTimerExpiry pos) s = .next t ∧
          t.ctlAt pos = { k' with attempts := 0 } ∧ Asked s t (.identity pos) ∧
          (∀ sl, pos = .slot sl →
            t.slotAt sl = { s.slotAt sl with state := .qualifying, cause := some .presence } ∧
            t.lasting = (s.setCtl pos { k' with attempts := 0 }).lasting) ∧
          (∀ c, pos = .cp c → t.lasting = ((s.setCtl pos { k' with attempts := 0 }).setCp c
            { s.cpAt c with state := .qualifying, cause := some .presence }).lasting) ∧
          (∀ b, pos = .bay b → t.lasting = ((s.setCtl pos { k' with attempts := 0 }).setBay b
            { s.bayAt b with state := .qualifying, cause := some .presence }).lasting) ∧
          (∀ tr, pos = .tray tr → t.lasting = ((s.setCtl pos { k' with attempts := 0 }).setTray tr
            { s.trayAt tr with state := .qualifying, cause := some .presence }).lasting)) ∧
      -- presence lost
      (d.candidate = false → k.taken = true → ∃ t, exec (.debounceTimerExpiry pos) s = .next t ∧
        (∀ sl, pos = .slot sl →
          State.lasting { t with rows := s.rows, aux := s.aux } =
            ((s.setCtl pos { k' with pollTimer := none }).setSlot sl { s.slotAt sl with
              unresponsive := false, missed := 0, identity := none, poll := none }).lasting ∧
          ((look s.ledger.shedSet sl = true → (s.slotAt sl).state = .shed) →
            (t.slotAt sl).state = .empty ∧ (t.slotAt sl).cause = some .absence ∧
            (t.auxAt sl).line = false) ∧
          (∀ p, (t.rowAt p).admin = (s.rowAt p).admin ∧
            (t.rowAt p).cls = if p.slot = sl then .nonexistent else (s.rowAt p).cls) ∧
          (∀ p, p.slot = sl → (t.rowAt p).cond = .nonexistent ∧ (t.rowAt p).grant = false ∧
            (s.settings.parkTime ≠ 0 → (t.rowAt p).unit =
              if (s.rowAt p).unit = .assigned then .parked else (s.rowAt p).unit) ∧
            (s.settings.parkTime = 0 → (s.rowAt p).unit ≠ .parked → (t.rowAt p).unit = .none))) ∧
        (∀ c, pos = .cp c → t.lasting = ((s.setCtl pos { k' with pollTimer := none }).setCp c
          ⟨.empty, some .absence, false, 0, none, none⟩).lasting) ∧
        (∀ b, pos = .bay b → t.lasting = ((s.setCtl pos { k' with pollTimer := none }).setBay b
          ⟨.absent, some .absence, false, 0, none, none⟩).lasting) ∧
        (∀ tr, pos = .tray tr →
          t.lasting = (((s.setCtl pos { k' with pollTimer := none }).setTray tr
            ⟨.absent, some .absence, none, none, fill 3 false, 0⟩).setTrayAux tr TrayAux.atStart).lasting)))

/-- What an accepted identity reply brings at a port-blade slot beyond its record: the rows the identity gives
their classes (R80). -/
def RowsClassed (s t : State) (sl : Slot) (i : BladeIdentity) : Prop :=
  ∀ p, (t.rowAt p).admin = (s.rowAt p).admin ∧
    (t.rowAt p).cls = if p.slot = sl ∧ p.idx.val < i.portCount then
      (if p.idx.val < i.baseCount then .base else .pool) else (s.rowAt p).cls

/-- The outcome of an identity read: the record judged, or another attempt, or rejection. A port blade that
qualifies enters OFF, and POWERING from there by auto-power when the ledger admits it (R11); a candidate whose
identity does not match is a new blade (R23). Model's choices: assumptions 4 and 10. -/
def Obligations.IdentityReadsAreJudged : Prop :=
  ∀ (s : State) (pos : Position) (r : Running), s.bus.running = some r → r.txn = .identity pos →
    r.withdrawn = false → s.reading pos = true → s.agenda = [] →
    -- a reply
    (∀ reply : IdentityReply,
      (∀ sl, pos = .slot sl →
        (wordSum reply.words ≠ 0 → ∃ t, exec (.identityReadReply pos reply) s = .next t ∧
          t.slotAt sl = { s.slotAt sl with state := .rejected, cause := some .rejectedCheck } ∧
          (t.auxAt sl).line = false ∧ (t.auxAt sl).held = none ∧ t.rows = s.rows) ∧
        (judgeIdentity .portBlade bladeFields reply = .misfit →
          ∃ t, exec (.identityReadReply pos reply) s = .next t ∧
            t.slotAt sl = { s.slotAt sl with state := .rejected, cause := some .rejectedFit } ∧
            (t.auxAt sl).line = false ∧ (t.auxAt sl).held = none ∧ t.rows = s.rows) ∧
        (∀ i, judgeIdentity .portBlade bladeFields reply = .qualified i → (s.auxAt sl).held = none →
          ∃ t, exec (.identityReadReply pos reply) s = .next t ∧
            State.lasting { t with rows := s.rows } =
              (s.setSlot sl { s.slotAt sl with identity := some i }).lasting ∧
            RowsClassed s t sl i ∧
            -- OFF: no auto-power yet or at all, or the ledger refuses
            (s.LedgerLaw → s.PortLaw →
              s.dev.phase = .starting ∨ (s.slotAt sl).autoPower = false ∨
                ((s.auxAt sl).parkTimer = none ∧ (s.ledger.overcommit ≠ .closed ∨
                  s.ledger.headroom - (i.basePower : Int) * 4 < 0)) →
              t.slotAt sl = { s.slotAt sl with
                state := .off, cause := some .qualified, identity := some i } ∧
              (t.auxAt sl).line = (s.auxAt sl).line) ∧
            -- POWERING, or THERMAL_OFF in a zone in SHUTDOWN
            (s.LedgerLaw → s.PortLaw → s.dev.phase = .running → (s.slotAt sl).autoPower = true →
              (s.auxAt sl).parkTimer = none → s.ledger.overcommit = .closed →
              s.ledgerStages = s.ledger → 0 ≤ s.ledger.headroom - (i.basePower : Int) * 4 →
              ((s.zoneAt (zoneOfSlot sl)).temp ≠ .shutdown →
                t.slotAt sl = { s.slotAt sl with
                  state := .powering, cause := some .admitted, identity := some i } ∧
                (t.auxAt sl).line = true ∧ (t.auxAt sl).readyTimer = some 5000 ∧
                look t.ledger.charged sl = true ∧
                (Txn.powerEnable sl ∈ t.bus.waiting ∨
                  t.bus.running.map (·.txn) = some (.powerEnable sl))) ∧
              ((s.zoneAt (zoneOfSlot sl)).temp = .shutdown →
                (t.slotAt sl).state = .thermalOff ∧ (t.slotAt sl).cause = some .thermal ∧
                (t.auxAt sl).line = false ∧ look t.ledger.charged sl = false))) ∧
        -- a candidate that does not match
        (∀ i x, judgeIdentity .portBlade bladeFields reply = .qualified i → (s.auxAt sl).held = some x →
          i.serial ≠ x.serial ∨ i.portCount ≠ x.portCount → s.dev.phase = .starting →
          ∃ t, exec (.identityReadReply pos reply) s = .next t ∧
            t.slotAt sl = { s.slotAt sl with
              state := .off, cause := some .qualified, identity := some i } ∧
            (t.auxAt sl).line = false ∧ (t.auxAt sl).held = none ∧ RowsClassed s t sl i ∧
            State.lasting { t with rows := s.rows } = State.lasting
              ((s.setAux sl { s.auxAt sl with line := false, held := none, matched := false }).setSlot sl
                { s.slotAt sl with identity := some i })) ∧
        (∀ i x, judgeIdentity .portBlade bladeFields reply = .qualified i → (s.auxAt sl).held = some x →
          i.serial = x.serial → i.portCount = x.portCount →
          ∃ t, exec (.identityReadReply pos reply) s = .next t ∧
            (Txn.poll pos ∈ t.bus.waiting ∨ t.bus.running.map (·.txn) = some (.poll pos)) ∧
            ({ t with bus := s.bus, counts := s.counts } : State) = { s with
              slots := put s.slots sl { s.slotAt sl with identity := some i }
              aux := put s.aux sl { s.auxAt sl with matched := true } })) ∧
      (∀ c, pos = .cp c →
        (wordSum reply.words ≠ 0 → ∃ t, exec (.identityReadReply pos reply) s = .next t ∧
          t.lasting = (s.setCp c
            { s.cpAt c with state := .rejected, cause := some .rejectedCheck }).lasting) ∧
        (judgeIdentity .controlProcessor cpFields reply = .misfit →
          ∃ t, exec (.identityReadReply pos reply) s = .next t ∧
            t.lasting = (s.setCp c
              { s.cpAt c with state := .rejected, cause := some .rejectedFit }).lasting) ∧
        (∀ i, judgeIdentity .controlProcessor cpFields reply = .qualified i →
          ∃ t, exec (.identityReadReply pos reply) s = .next t ∧
            t.lasting = (s.setCp c { s.cpAt c with
              state := .present, cause := some .qualified, identity := some i }).lasting)) ∧
      (∀ b, pos = .bay b →
        (wordSum reply.words ≠ 0 → ∃ t, exec (.identityReadReply pos reply) s = .next t ∧
          t.lasting = (s.setBay b
            { s.bayAt b with state := .rejected, cause := some .rejectedCheck }).lasting) ∧
        (judgeIdentity .powerSupply supplyFields reply = .misfit →
          ∃ t, exec (.identityReadReply pos reply) s = .next t ∧
            t.lasting = (s.setBay b
              { s.bayAt b with state := .rejected, cause := some .rejectedFit }).lasting) ∧
        (∀ i, judgeIdentity .powerSupply supplyFields reply = .qualified i →
          ∃ t, exec (.identityReadReply pos reply) s = .next t ∧
            t.lasting = (s.setBay b { s.bayAt b with identity := some i }).lasting)) ∧
      (∀ tr, pos = .tray tr →
        (wordSum reply.words ≠ 0 → ∃ t, exec (.identityReadReply pos reply) s = .next t ∧
          t.lasting = (s.setTray tr
            { s.trayAt tr with state := .rejected, cause := some .rejectedCheck }).lasting) ∧
        (judgeIdentity .fanTray trayFields reply = .misfit →
          ∃ t, exec (.identityReadReply pos reply) s = .next t ∧
            t.lasting = (s.setTray tr
              { s.trayAt tr with state := .rejected, cause := some .rejectedFit }).lasting) ∧
        (∀ i, judgeIdentity .fanTray trayFields reply = .qualified i →
          ∃ t, exec (.identityReadReply pos reply) s = .next t ∧
            t.lasting = ((s.setTray tr { s.trayAt tr with
              state := .running, cause := some .qualified, identity := some i
              failed := fill 3 false }).setTrayAux tr
                TrayAux.atStart).lasting))) ∧
    -- a timeout
    ((s.ctlAt pos).attempts + 1 < 3 → ∃ t, exec .identityReadTimeout s = .next t ∧
      (Txn.identity pos ∈ t.bus.waiting ∨ t.bus.running.map (·.txn) = some (.identity pos)) ∧
      ({ t with bus := s.bus } : State) =
        s.setCtl pos { s.ctlAt pos with attempts := (s.ctlAt pos).attempts + 1 }) ∧
    (3 ≤ (s.ctlAt pos).attempts + 1 → ∃ t, exec .identityReadTimeout s = .next t ∧
      (t.ctlAt pos).attempts = (s.ctlAt pos).attempts + 1 ∧
      (∀ sl, pos = .slot sl →
        ((s.auxAt sl).held = none →
          t.slotAt sl = { s.slotAt sl with state := .rejected, cause := some .rejectedTimeout }) ∧
        ((s.auxAt sl).held ≠ none →
          t.slotAt sl = { s.slotAt sl with state := .faulted, cause := some .notAdopted } ∧
          (t.auxAt sl).held = none ∧ (t.auxAt sl).line = false)) ∧
      (∀ c, pos = .cp c →
        t.cpAt c = { s.cpAt c with state := .rejected, cause := some .rejectedTimeout }) ∧
      (∀ b, pos = .bay b →
        t.bayAt b = { s.bayAt b with state := .rejected, cause := some .rejectedTimeout }) ∧
      (∀ tr, pos = .tray tr →
        (t.trayAt tr).state = .rejected ∧ (t.trayAt tr).cause = some .rejectedTimeout))

/-- The outcome of a status poll: the fields recorded, the states they give, the missed count, and the
poll timer. Model's choices: assumptions 8 and 12. -/
def Obligations.PollsAreRecordedAndTimed : Prop :=
  ∀ s : State,
    (∀ r pos, s.bus.running = some r → r.txn = .poll pos → r.withdrawn = false →
      ∀ timed : PosCtl, timed = { s.ctlAt pos with pollTimer := some 250 } →
      -- replies
      (∀ sl b, pos = .slot sl →
        (s.slotAt sl).state ∉ [SlotState.empty, .qualifying, .rejected] →
        ∃ t, exec (.statusPollReply pos (.blade b)) s = .next t ∧
          t.lasting = ((s.setCtl pos timed).setSlot sl { s.slotAt sl with
            poll := some (acceptBlade b), missed := 0, unresponsive := false }).lasting) ∧
      (∀ c x, pos = .cp c → (s.cpAt c).state = .present →
        ∃ t, exec (.statusPollReply pos (.cp x)) s = .next t ∧
          t.lasting = ((s.setCtl pos timed).setCp c { s.cpAt c with
            poll := some (sensorOf x), missed := 0, unresponsive := false }).lasting) ∧
      (∀ b o i inlet watts limit, ∀ st : BayState, pos = .bay b → -80 ≤ inlet → inlet ≤ 250 →
        st = (if o = .fault then .failed
          else if o = .off ∨ i = .none then .standby
          else if limit.isSome then .degraded
          else .online) →
        ∃ t, exec (.statusPollReply pos (.supply (some o) (some i) inlet watts limit)) s = .next t ∧
          t.lasting = ((s.setCtl pos timed).setBay b { s.bayAt b with
            state := st
            cause := if st = (s.bayAt b).state then (s.bayAt b).cause else some .poll
            poll := some ⟨o, i, inlet, watts, limit⟩
            missed := 0
            unresponsive := false }).lasting) ∧
      (∀ tr x y z, pos = .tray tr →
        ∃ t, exec (.statusPollReply pos (.tray x y z)) s = .next t ∧
          t.ctlAt pos = timed ∧ (t.trayAt tr).speeds = some #v[x, y, z] ∧
          (t.trayAuxAt tr).missed = 0 ∧ (t.trayAuxAt tr).unresponsive = false ∧
          (∀ k : Fin 3, ∀ slow : Bool,
            slow = rotorSlow (s.trayAt tr).duty
              (((s.trayAt tr).identity.map (·.maxSpeed)).getD 0) (look #v[x, y, z] k) →
            look (t.trayAuxAt tr).low k =
              (if slow then min (look (s.trayAuxAt tr).low k + 1) 3 else 0) ∧
            look (t.trayAuxAt tr).good k =
              (if slow then 0 else min (look (s.trayAuxAt tr).good k + 1) 3) ∧
            look (t.trayAt tr).failed k =
              (if look (t.trayAuxAt tr).low k = 3 then true
              else if look (t.trayAuxAt tr).good k = 3 then false
              else look (s.trayAt tr).failed k)) ∧
          (t.trayAt tr).state = (if 2 ≤ countSet (t.trayAt tr).failed then .failed
            else if countSet (t.trayAt tr).failed = 1 then .degraded else .running)) ∧
      -- a timeout
      (∃ t, exec .statusPollTimeout s = .next t ∧
        (∀ sl, pos = .slot sl → (t.slotAt sl).missed = min ((s.slotAt sl).missed + 1) 255 ∧
          (t.slotAt sl).unresponsive =
            ((s.slotAt sl).unresponsive || decide (3 ≤ (t.slotAt sl).missed)) ∧
          (t.slotAt sl).poll = (s.slotAt sl).poll) ∧
        (∀ c, pos = .cp c → t.cpAt c = { s.cpAt c with
          missed := min ((s.cpAt c).missed + 1) 255
          unresponsive := (s.cpAt c).unresponsive || decide (3 ≤ (t.cpAt c).missed) }) ∧
        (∀ b, pos = .bay b → t.bayAt b = { s.bayAt b with
          missed := min ((s.bayAt b).missed + 1) 255
          unresponsive := (s.bayAt b).unresponsive || decide (3 ≤ (t.bayAt b).missed)
          state := if (t.bayAt b).missed = 3 then .failed else (s.bayAt b).state
          cause := if (t.bayAt b).missed = 3 ∧ (s.bayAt b).state ≠ .failed then some .unresponsive
            else (s.bayAt b).cause }) ∧
        (∀ tr, pos = .tray tr →
          (t.trayAuxAt tr).missed = min ((s.trayAuxAt tr).missed + 1) 255 ∧
          (t.trayAt tr).state = if (t.trayAuxAt tr).missed = 3 then .failed else (s.trayAt tr).state) ∧
        t.settings = s.settings ∧ t.arbiter = s.arbiter ∧ t.links = s.links ∧ t.store = s.store)) ∧
    -- the state a blade's reply gives
    (∀ sl b, ∀ u, u = s.bladeReply sl b →
      ((s.slotAt sl).state = .powering →
        (u.slotAt sl).state = (if (acceptBlade b).fault ≠ none then .faulted
          else if b.ready then .powered else .powering)) ∧
      ((s.slotAt sl).state = .powered →
        (u.slotAt sl).state = (if (acceptBlade b).fault = none ∧ b.ready = true then .powered
          else .faulted)) ∧
      ((s.slotAt sl).state ∈ [SlotState.off, .shed, .thermalOff, .faulted] →
        (u.slotAt sl).state = (s.slotAt sl).state) ∧
      (∀ x, (s.slotAt sl).state = .qualifying → (s.auxAt sl).held = some x →
        ((acceptBlade b).fault ≠ none → (u.slotAt sl).state = .faulted ∧ (u.auxAt sl).line = false ∧
          (u.auxAt sl).held = none) ∧
        ((acceptBlade b).fault = none → b.ready = true → (u.slotAt sl).state = .powered ∧
          (u.slotAt sl).cause = some .adopted ∧ (u.auxAt sl).line = (s.auxAt sl).line ∧
          (u.auxAt sl).enabled = x.enabled ∧ (u.auxAt sl).held = none ∧
          look u.ledger.charged sl = true) ∧
        ((acceptBlade b).fault = none → b.ready = false → (u.slotAt sl).state = .qualifying))) ∧
    -- the poll timer
    (∀ pos, (s.ctlAt pos).pollTimer ≠ none → ∃ t, exec (.pollTimerExpiry pos) s = .next t ∧
      (Txn.poll pos ∈ t.bus.waiting ∨ t.bus.running.map (·.txn) = some (.poll pos)) ∧
      ({ t with bus := s.bus } : State) = s.setCtl pos { s.ctlAt pos with pollTimer := none }) ∧
    (∀ pos, (s.ctlAt pos).pollTimer = none → exec (.pollTimerExpiry pos) s = .next s)

/-! ## Store -/

/-- The store controller's one write: what it takes at its start, and what its completion leaves; the write of a
commit in SAVING takes the commit to DISTRIBUTING, with the CURRENT slots as its wait set, each PREVIOUS and
pushed, or to IDLE, and pushes each TOO_SMALL slot whose image now fits in either case (with no CURRENT slot, in
states of the law of the port table). Model's choices: assumptions 8, 18 and 24. -/
def Obligations.StoreWritesStartAndComplete : Prop :=
  ∀ s : State,
    (∀ x, s.nextWrite = some x → s.store.write = none → s.dev.phase = .running →
      exec .storeWriteStart s = .next { s with store := { s.store with
                                          dirty := put s.store.dirty (StoreSection.idx x) false
                                          write := some ⟨s.sectionContent x,
                                            s.zoning.phase = .saving⟩ } }) ∧
    (s.nextWrite = none ∨ s.store.write ≠ none ∨ s.dev.phase = .starting →
      exec .storeWriteStart s = .next s) ∧
    (s.store.write = none → ∀ good, exec (.storeWriteComplete good) s = .next s) ∧
    (∀ (w : Write) (good : Bool) (x : StoreSection) (k : Store), s.store.write = some w →
      x = w.content.section →
      k = { (if good then s.store.replace w.content else s.store) with
        write := none, last := some x
        fault := put s.store.fault (StoreSection.idx x) (!good) } →
      (¬(x = .zoning ∧ w.forCommit = true ∧ s.zoning.phase = .saving) → s.agenda = [] →
        ∃ t, exec (.storeWriteComplete good) s = .next t ∧ t.store = k ∧
          ({ t with store := s.store, alarms := s.alarms, queues := s.queues, counts := s.counts }
            : State) = s) ∧
      (x = .zoning → w.forCommit = true → s.zoning.phase = .saving → s.agenda = [] →
        ∀ wait : Vector Bool 8, wait = s.slots.map (fun e => decide (e.enforcement = .current)) →
        ∃ t, exec (.storeWriteComplete good) s = .next t ∧
          (s.zoning.changed = false → t.zoning = { s.zoning with
              saved := if good then SavedFlag.yes else SavedFlag.no, phase := .idle } ∧
            t.slots = s.slots) ∧
          (s.zoning.changed = true → t.zoning = { s.zoning with
            saved := if good then SavedFlag.yes else SavedFlag.no
            active := s.zoning.defined.effective
            activeGen := s.zoning.commitGen
            waitSet := wait
            phase := if anySet wait then .distributing else .idle }) ∧
          (s.zoning.changed = true → anySet wait = true ∨ s.PortLaw → ∀ sl,
            ((s.slotAt sl).enforcement = .current →
              t.slotAt sl = { s.slotAt sl with enforcement := .previous, attempt := 1 } ∧
              Asked s t (.push sl)) ∧
            ((s.slotAt sl).enforcement = .tooSmall →
              (imageSize s.zoning.defined.effective sl ≤ (s.bladeOf sl).capacity →
                t.slotAt sl = { s.slotAt sl with enforcement := .pending, attempt := 1 } ∧
                Asked s t (.push sl)) ∧
              ((s.bladeOf sl).capacity < imageSize s.zoning.defined.effective sl →
                t.slotAt sl = s.slotAt sl)) ∧
            ((s.slotAt sl).enforcement ∉ [Enforcement.current, .tooSmall] →
              t.slotAt sl = s.slotAt sl)) ∧
          t.lasting = State.lasting { s with
            store := k
            zoning := { s.zoning with
              saved := if good then SavedFlag.yes else SavedFlag.no
              active := if s.zoning.changed then s.zoning.defined.effective else s.zoning.active
              activeGen := if s.zoning.changed then s.zoning.commitGen else s.zoning.activeGen } } ∧
          t.agenda = []))

end
end

