-- ==== Sys2Proof/Laws/Tables.lean ====
section
/-! SUPPORT. Reading and replacing one place of a fixed-size table. -/

namespace Sys2Proof

@[simp] theorem look_put_same {α : Type} {n : Nat} (v : Vector α n) (i : Fin n) (x : α) :
    look (put v i x) i = x := by simp [look, put]

theorem look_put {α : Type} {n : Nat} (v : Vector α n) (i j : Fin n) (x : α) :
    look (put v i x) j = if j = i then x else look v j := by
  by_cases h : j = i
  · subst h; simp
  · simp only [look, put, h, if_false]
    exact Vector.getElem_set_ne _ _ (fun e => h (Fin.ext e.symm))

theorem look_put_ne {α : Type} {n : Nat} (v : Vector α n) {i j : Fin n} (x : α) (h : j ≠ i) :
    look (put v i x) j = look v j := by simp [look_put, h]

@[simp] theorem put_look {α : Type} {n : Nat} (v : Vector α n) (i : Fin n) : put v i (look v i) = v := by
  simp [look, put]

@[simp] theorem put_put {α : Type} {n : Nat} (v : Vector α n) (i : Fin n) (x y : α) :
    put (put v i x) i y = put v i y := by simp [put]

@[simp] theorem look_map {α β : Type} {n : Nat} (v : Vector α n) (f : α → β) (i : Fin n) :
    look (v.map f) i = f (look v i) := by simp [look]

@[simp] theorem look_fill {α : Type} {n : Nat} (x : α) (i : Fin n) : look (fill n x) i = x := by
  simp [look, fill]

/-- Two tables that read the same at every place are equal. -/
theorem look_ext {α : Type} {n : Nat} {v w : Vector α n} (h : ∀ i, look v i = look w i) : v = w := by
  apply Vector.ext
  intro i hi
  exact h ⟨i, hi⟩

theorem map_put {α β : Type} {n : Nat} (v : Vector α n) (f : α → β) (i : Fin n) (x : α) :
    (put v i x).map f = put (v.map f) i (f x) := by
  apply look_ext
  intro j
  by_cases h : j = i <;> simp [look_put, h]

/-- Replacing a place by a value with the same image leaves the image of the table. -/
theorem map_put_same {α β : Type} {n : Nat} (v : Vector α n) (f : α → β) (i : Fin n) (x : α)
    (h : f x = f (look v i)) : (put v i x).map f = v.map f := by
  rw [map_put, h, ← look_map v f i, put_look]

/-- A table of flags has one set exactly when some place reads set. -/
theorem anySet_iff {n : Nat} (v : Vector Bool n) : anySet v = true ↔ ∃ i, look v i = true := by
  simp only [anySet, List.any_eq_true, id_eq, exists_eq_right, Vector.mem_toList_iff,
    Vector.mem_iff_getElem, look]
  constructor
  · rintro ⟨i, hi, h⟩; exact ⟨⟨i, hi⟩, h⟩
  · rintro ⟨i, h⟩; exact ⟨i.val, i.isLt, h⟩

@[simp] theorem mem_allFin {n : Nat} (i : Fin n) : i ∈ allFin n := List.mem_finRange i

theorem idx_inj {a b : LinkId} : Machine.LinkId.idx a = Machine.LinkId.idx b ↔ a = b := by
  cases a <;> cases b <;> simp [Machine.LinkId.idx]

theorem ctl_idx_inj {a b : Machine.Ctl} : a.idx = b.idx ↔ a = b := by
  cases a <;> cases b <;> simp [Machine.Ctl.idx]

theorem cp_idx_inj {a b : Cp} : Machine.Cp.idx a = Machine.Cp.idx b ↔ a = b := by
  cases a <;> cases b <;> simp [Machine.Cp.idx]

theorem airZone_idx_inj {a b : AirZone} : Machine.AirZone.idx a = Machine.AirZone.idx b ↔ a = b := by
  cases a <;> cases b <;> simp [Machine.AirZone.idx]

theorem table_idx_inj {a b : Table} : Machine.Table.idx a = Machine.Table.idx b ↔ a = b := by
  cases a <;> cases b <;> simp [Machine.Table.idx]

end Sys2Proof
end

