-- ==== Sys2Proof/Laws/State.lean ====
section
/-! SUPPORT. What every field of the state reads after each named update, field by field. -/

namespace Sys2Proof.Machine

/-! ### bump -/
@[simp] theorem bump_dev (s : State) (t : Table) : (State.bump t s).dev = s.dev := rfl
@[simp] theorem bump_settings (s : State) (t : Table) : (State.bump t s).settings = s.settings := rfl
@[simp] theorem bump_ctl (s : State) (t : Table) : (State.bump t s).ctl = s.ctl := rfl
@[simp] theorem bump_slots (s : State) (t : Table) : (State.bump t s).slots = s.slots := rfl
@[simp] theorem bump_aux (s : State) (t : Table) : (State.bump t s).aux = s.aux := rfl
@[simp] theorem bump_cps (s : State) (t : Table) : (State.bump t s).cps = s.cps := rfl
@[simp] theorem bump_bays (s : State) (t : Table) : (State.bump t s).bays = s.bays := rfl
@[simp] theorem bump_trays (s : State) (t : Table) : (State.bump t s).trays = s.trays := rfl
@[simp] theorem bump_trayAux (s : State) (t : Table) : (State.bump t s).trayAux = s.trayAux := rfl
@[simp] theorem bump_bus (s : State) (t : Table) : (State.bump t s).bus = s.bus := rfl
@[simp] theorem bump_ledger (s : State) (t : Table) : (State.bump t s).ledger = s.ledger := rfl
@[simp] theorem bump_cooling (s : State) (t : Table) : (State.bump t s).cooling = s.cooling := rfl
@[simp] theorem bump_pool (s : State) (t : Table) : (State.bump t s).pool = s.pool := rfl
@[simp] theorem bump_rows (s : State) (t : Table) : (State.bump t s).rows = s.rows := rfl
@[simp] theorem bump_zoning (s : State) (t : Table) : (State.bump t s).zoning = s.zoning := rfl
@[simp] theorem bump_arbiter (s : State) (t : Table) : (State.bump t s).arbiter = s.arbiter := rfl
@[simp] theorem bump_alarms (s : State) (t : Table) : (State.bump t s).alarms = s.alarms := rfl
@[simp] theorem bump_queues (s : State) (t : Table) : (State.bump t s).queues = s.queues := rfl
@[simp] theorem bump_links (s : State) (t : Table) : (State.bump t s).links = s.links := rfl
@[simp] theorem bump_counts (s : State) (t : Table) : (State.bump t s).counts = put s.counts (Table.idx t) (s.countOf t + 1) := rfl
@[simp] theorem bump_store (s : State) (t : Table) : (State.bump t s).store = s.store := rfl
@[simp] theorem bump_agenda (s : State) (t : Table) : (State.bump t s).agenda = s.agenda := rfl
@[simp] theorem bump_pending (s : State) (t : Table) : (State.bump t s).pending = s.pending := rfl

/-! ### setSlot -/
@[simp] theorem setSlot_dev (s : State) (i : Slot) (e : SlotEntry) : (State.setSlot i e s).dev = s.dev := by
  unfold State.setSlot; split <;> rfl
@[simp] theorem setSlot_settings (s : State) (i : Slot) (e : SlotEntry) : (State.setSlot i e s).settings = s.settings := by
  unfold State.setSlot; split <;> rfl
@[simp] theorem setSlot_ctl (s : State) (i : Slot) (e : SlotEntry) : (State.setSlot i e s).ctl = s.ctl := by
  unfold State.setSlot; split <;> rfl
@[simp] theorem setSlot_slots (s : State) (i : Slot) (e : SlotEntry) : (State.setSlot i e s).slots = put s.slots i e := by
  unfold State.setSlot; split
  · next h => simp [h, State.slotAt]
  · rfl
@[simp] theorem setSlot_aux (s : State) (i : Slot) (e : SlotEntry) : (State.setSlot i e s).aux = s.aux := by
  unfold State.setSlot; split <;> rfl
@[simp] theorem setSlot_cps (s : State) (i : Slot) (e : SlotEntry) : (State.setSlot i e s).cps = s.cps := by
  unfold State.setSlot; split <;> rfl
@[simp] theorem setSlot_bays (s : State) (i : Slot) (e : SlotEntry) : (State.setSlot i e s).bays = s.bays := by
  unfold State.setSlot; split <;> rfl
@[simp] theorem setSlot_trays (s : State) (i : Slot) (e : SlotEntry) : (State.setSlot i e s).trays = s.trays := by
  unfold State.setSlot; split <;> rfl
@[simp] theorem setSlot_trayAux (s : State) (i : Slot) (e : SlotEntry) : (State.setSlot i e s).trayAux = s.trayAux := by
  unfold State.setSlot; split <;> rfl
@[simp] theorem setSlot_bus (s : State) (i : Slot) (e : SlotEntry) : (State.setSlot i e s).bus = s.bus := by
  unfold State.setSlot; split <;> rfl
@[simp] theorem setSlot_ledger (s : State) (i : Slot) (e : SlotEntry) : (State.setSlot i e s).ledger = s.ledger := by
  unfold State.setSlot; split <;> rfl
@[simp] theorem setSlot_cooling (s : State) (i : Slot) (e : SlotEntry) : (State.setSlot i e s).cooling = s.cooling := by
  unfold State.setSlot; split <;> rfl
@[simp] theorem setSlot_pool (s : State) (i : Slot) (e : SlotEntry) : (State.setSlot i e s).pool = s.pool := by
  unfold State.setSlot; split <;> rfl
@[simp] theorem setSlot_rows (s : State) (i : Slot) (e : SlotEntry) : (State.setSlot i e s).rows = s.rows := by
  unfold State.setSlot; split <;> rfl
@[simp] theorem setSlot_zoning (s : State) (i : Slot) (e : SlotEntry) : (State.setSlot i e s).zoning = s.zoning := by
  unfold State.setSlot; split <;> rfl
@[simp] theorem setSlot_arbiter (s : State) (i : Slot) (e : SlotEntry) : (State.setSlot i e s).arbiter = s.arbiter := by
  unfold State.setSlot; split <;> rfl
@[simp] theorem setSlot_alarms (s : State) (i : Slot) (e : SlotEntry) : (State.setSlot i e s).alarms = s.alarms := by
  unfold State.setSlot; split <;> rfl
@[simp] theorem setSlot_queues (s : State) (i : Slot) (e : SlotEntry) : (State.setSlot i e s).queues = s.queues := by
  unfold State.setSlot; split <;> rfl
@[simp] theorem setSlot_links (s : State) (i : Slot) (e : SlotEntry) : (State.setSlot i e s).links = s.links := by
  unfold State.setSlot; split <;> rfl
@[simp] theorem setSlot_store (s : State) (i : Slot) (e : SlotEntry) : (State.setSlot i e s).store = s.store := by
  unfold State.setSlot; split <;> rfl
@[simp] theorem setSlot_agenda (s : State) (i : Slot) (e : SlotEntry) : (State.setSlot i e s).agenda = s.agenda := by
  unfold State.setSlot; split <;> rfl
@[simp] theorem setSlot_pending (s : State) (i : Slot) (e : SlotEntry) : (State.setSlot i e s).pending = s.pending := by
  unfold State.setSlot; split <;> rfl

/-! ### setCp -/
@[simp] theorem setCp_dev (s : State) (c : Cp) (e : CpEntry) : (State.setCp c e s).dev = s.dev := by
  unfold State.setCp; split <;> rfl
@[simp] theorem setCp_settings (s : State) (c : Cp) (e : CpEntry) : (State.setCp c e s).settings = s.settings := by
  unfold State.setCp; split <;> rfl
@[simp] theorem setCp_ctl (s : State) (c : Cp) (e : CpEntry) : (State.setCp c e s).ctl = s.ctl := by
  unfold State.setCp; split <;> rfl
@[simp] theorem setCp_slots (s : State) (c : Cp) (e : CpEntry) : (State.setCp c e s).slots = s.slots := by
  unfold State.setCp; split <;> rfl
@[simp] theorem setCp_aux (s : State) (c : Cp) (e : CpEntry) : (State.setCp c e s).aux = s.aux := by
  unfold State.setCp; split <;> rfl
@[simp] theorem setCp_cps (s : State) (c : Cp) (e : CpEntry) : (State.setCp c e s).cps = put s.cps (Cp.idx c) e := by
  unfold State.setCp; split
  · next h => simp [h, State.cpAt]
  · rfl
@[simp] theorem setCp_bays (s : State) (c : Cp) (e : CpEntry) : (State.setCp c e s).bays = s.bays := by
  unfold State.setCp; split <;> rfl
@[simp] theorem setCp_trays (s : State) (c : Cp) (e : CpEntry) : (State.setCp c e s).trays = s.trays := by
  unfold State.setCp; split <;> rfl
@[simp] theorem setCp_trayAux (s : State) (c : Cp) (e : CpEntry) : (State.setCp c e s).trayAux = s.trayAux := by
  unfold State.setCp; split <;> rfl
@[simp] theorem setCp_bus (s : State) (c : Cp) (e : CpEntry) : (State.setCp c e s).bus = s.bus := by
  unfold State.setCp; split <;> rfl
@[simp] theorem setCp_ledger (s : State) (c : Cp) (e : CpEntry) : (State.setCp c e s).ledger = s.ledger := by
  unfold State.setCp; split <;> rfl
@[simp] theorem setCp_cooling (s : State) (c : Cp) (e : CpEntry) : (State.setCp c e s).cooling = s.cooling := by
  unfold State.setCp; split <;> rfl
@[simp] theorem setCp_pool (s : State) (c : Cp) (e : CpEntry) : (State.setCp c e s).pool = s.pool := by
  unfold State.setCp; split <;> rfl
@[simp] theorem setCp_rows (s : State) (c : Cp) (e : CpEntry) : (State.setCp c e s).rows = s.rows := by
  unfold State.setCp; split <;> rfl
@[simp] theorem setCp_zoning (s : State) (c : Cp) (e : CpEntry) : (State.setCp c e s).zoning = s.zoning := by
  unfold State.setCp; split <;> rfl
@[simp] theorem setCp_arbiter (s : State) (c : Cp) (e : CpEntry) : (State.setCp c e s).arbiter = s.arbiter := by
  unfold State.setCp; split <;> rfl
@[simp] theorem setCp_alarms (s : State) (c : Cp) (e : CpEntry) : (State.setCp c e s).alarms = s.alarms := by
  unfold State.setCp; split <;> rfl
@[simp] theorem setCp_queues (s : State) (c : Cp) (e : CpEntry) : (State.setCp c e s).queues = s.queues := by
  unfold State.setCp; split <;> rfl
@[simp] theorem setCp_links (s : State) (c : Cp) (e : CpEntry) : (State.setCp c e s).links = s.links := by
  unfold State.setCp; split <;> rfl
@[simp] theorem setCp_store (s : State) (c : Cp) (e : CpEntry) : (State.setCp c e s).store = s.store := by
  unfold State.setCp; split <;> rfl
@[simp] theorem setCp_agenda (s : State) (c : Cp) (e : CpEntry) : (State.setCp c e s).agenda = s.agenda := by
  unfold State.setCp; split <;> rfl
@[simp] theorem setCp_pending (s : State) (c : Cp) (e : CpEntry) : (State.setCp c e s).pending = s.pending := by
  unfold State.setCp; split <;> rfl

/-! ### setBay -/
@[simp] theorem setBay_dev (s : State) (b : Bay) (e : BayEntry) : (State.setBay b e s).dev = s.dev := by
  unfold State.setBay; split <;> rfl
@[simp] theorem setBay_settings (s : State) (b : Bay) (e : BayEntry) : (State.setBay b e s).settings = s.settings := by
  unfold State.setBay; split <;> rfl
@[simp] theorem setBay_ctl (s : State) (b : Bay) (e : BayEntry) : (State.setBay b e s).ctl = s.ctl := by
  unfold State.setBay; split <;> rfl
@[simp] theorem setBay_slots (s : State) (b : Bay) (e : BayEntry) : (State.setBay b e s).slots = s.slots := by
  unfold State.setBay; split <;> rfl
@[simp] theorem setBay_aux (s : State) (b : Bay) (e : BayEntry) : (State.setBay b e s).aux = s.aux := by
  unfold State.setBay; split <;> rfl
@[simp] theorem setBay_cps (s : State) (b : Bay) (e : BayEntry) : (State.setBay b e s).cps = s.cps := by
  unfold State.setBay; split <;> rfl
@[simp] theorem setBay_bays (s : State) (b : Bay) (e : BayEntry) : (State.setBay b e s).bays = put s.bays b e := by
  unfold State.setBay; split
  · next h => simp [h, State.bayAt]
  · rfl
@[simp] theorem setBay_trays (s : State) (b : Bay) (e : BayEntry) : (State.setBay b e s).trays = s.trays := by
  unfold State.setBay; split <;> rfl
@[simp] theorem setBay_trayAux (s : State) (b : Bay) (e : BayEntry) : (State.setBay b e s).trayAux = s.trayAux := by
  unfold State.setBay; split <;> rfl
@[simp] theorem setBay_bus (s : State) (b : Bay) (e : BayEntry) : (State.setBay b e s).bus = s.bus := by
  unfold State.setBay; split <;> rfl
@[simp] theorem setBay_ledger (s : State) (b : Bay) (e : BayEntry) : (State.setBay b e s).ledger = s.ledger := by
  unfold State.setBay; split <;> rfl
@[simp] theorem setBay_cooling (s : State) (b : Bay) (e : BayEntry) : (State.setBay b e s).cooling = s.cooling := by
  unfold State.setBay; split <;> rfl
@[simp] theorem setBay_pool (s : State) (b : Bay) (e : BayEntry) : (State.setBay b e s).pool = s.pool := by
  unfold State.setBay; split <;> rfl
@[simp] theorem setBay_rows (s : State) (b : Bay) (e : BayEntry) : (State.setBay b e s).rows = s.rows := by
  unfold State.setBay; split <;> rfl
@[simp] theorem setBay_zoning (s : State) (b : Bay) (e : BayEntry) : (State.setBay b e s).zoning = s.zoning := by
  unfold State.setBay; split <;> rfl
@[simp] theorem setBay_arbiter (s : State) (b : Bay) (e : BayEntry) : (State.setBay b e s).arbiter = s.arbiter := by
  unfold State.setBay; split <;> rfl
@[simp] theorem setBay_alarms (s : State) (b : Bay) (e : BayEntry) : (State.setBay b e s).alarms = s.alarms := by
  unfold State.setBay; split <;> rfl
@[simp] theorem setBay_queues (s : State) (b : Bay) (e : BayEntry) : (State.setBay b e s).queues = s.queues := by
  unfold State.setBay; split <;> rfl
@[simp] theorem setBay_links (s : State) (b : Bay) (e : BayEntry) : (State.setBay b e s).links = s.links := by
  unfold State.setBay; split <;> rfl
@[simp] theorem setBay_store (s : State) (b : Bay) (e : BayEntry) : (State.setBay b e s).store = s.store := by
  unfold State.setBay; split <;> rfl
@[simp] theorem setBay_agenda (s : State) (b : Bay) (e : BayEntry) : (State.setBay b e s).agenda = s.agenda := by
  unfold State.setBay; split <;> rfl
@[simp] theorem setBay_pending (s : State) (b : Bay) (e : BayEntry) : (State.setBay b e s).pending = s.pending := by
  unfold State.setBay; split <;> rfl

/-! ### setTray -/
@[simp] theorem setTray_dev (s : State) (t : Tray) (e : TrayEntry) : (State.setTray t e s).dev = s.dev := by
  unfold State.setTray; split <;> rfl
@[simp] theorem setTray_settings (s : State) (t : Tray) (e : TrayEntry) : (State.setTray t e s).settings = s.settings := by
  unfold State.setTray; split <;> rfl
@[simp] theorem setTray_ctl (s : State) (t : Tray) (e : TrayEntry) : (State.setTray t e s).ctl = s.ctl := by
  unfold State.setTray; split <;> rfl
@[simp] theorem setTray_slots (s : State) (t : Tray) (e : TrayEntry) : (State.setTray t e s).slots = s.slots := by
  unfold State.setTray; split <;> rfl
@[simp] theorem setTray_aux (s : State) (t : Tray) (e : TrayEntry) : (State.setTray t e s).aux = s.aux := by
  unfold State.setTray; split <;> rfl
@[simp] theorem setTray_cps (s : State) (t : Tray) (e : TrayEntry) : (State.setTray t e s).cps = s.cps := by
  unfold State.setTray; split <;> rfl
@[simp] theorem setTray_bays (s : State) (t : Tray) (e : TrayEntry) : (State.setTray t e s).bays = s.bays := by
  unfold State.setTray; split <;> rfl
@[simp] theorem setTray_trays (s : State) (t : Tray) (e : TrayEntry) : (State.setTray t e s).trays = put s.trays t e := by
  unfold State.setTray; split
  · next h => simp [h, State.trayAt]
  · rfl
@[simp] theorem setTray_trayAux (s : State) (t : Tray) (e : TrayEntry) : (State.setTray t e s).trayAux = s.trayAux := by
  unfold State.setTray; split <;> rfl
@[simp] theorem setTray_bus (s : State) (t : Tray) (e : TrayEntry) : (State.setTray t e s).bus = s.bus := by
  unfold State.setTray; split <;> rfl
@[simp] theorem setTray_ledger (s : State) (t : Tray) (e : TrayEntry) : (State.setTray t e s).ledger = s.ledger := by
  unfold State.setTray; split <;> rfl
@[simp] theorem setTray_cooling (s : State) (t : Tray) (e : TrayEntry) : (State.setTray t e s).cooling = s.cooling := by
  unfold State.setTray; split <;> rfl
@[simp] theorem setTray_pool (s : State) (t : Tray) (e : TrayEntry) : (State.setTray t e s).pool = s.pool := by
  unfold State.setTray; split <;> rfl
@[simp] theorem setTray_rows (s : State) (t : Tray) (e : TrayEntry) : (State.setTray t e s).rows = s.rows := by
  unfold State.setTray; split <;> rfl
@[simp] theorem setTray_zoning (s : State) (t : Tray) (e : TrayEntry) : (State.setTray t e s).zoning = s.zoning := by
  unfold State.setTray; split <;> rfl
@[simp] theorem setTray_arbiter (s : State) (t : Tray) (e : TrayEntry) : (State.setTray t e s).arbiter = s.arbiter := by
  unfold State.setTray; split <;> rfl
@[simp] theorem setTray_alarms (s : State) (t : Tray) (e : TrayEntry) : (State.setTray t e s).alarms = s.alarms := by
  unfold State.setTray; split <;> rfl
@[simp] theorem setTray_queues (s : State) (t : Tray) (e : TrayEntry) : (State.setTray t e s).queues = s.queues := by
  unfold State.setTray; split <;> rfl
@[simp] theorem setTray_links (s : State) (t : Tray) (e : TrayEntry) : (State.setTray t e s).links = s.links := by
  unfold State.setTray; split <;> rfl
@[simp] theorem setTray_store (s : State) (t : Tray) (e : TrayEntry) : (State.setTray t e s).store = s.store := by
  unfold State.setTray; split <;> rfl
@[simp] theorem setTray_agenda (s : State) (t : Tray) (e : TrayEntry) : (State.setTray t e s).agenda = s.agenda := by
  unfold State.setTray; split <;> rfl
@[simp] theorem setTray_pending (s : State) (t : Tray) (e : TrayEntry) : (State.setTray t e s).pending = s.pending := by
  unfold State.setTray; split <;> rfl

/-! ### setRow -/
@[simp] theorem setRow_dev (s : State) (p : Port) (r : Row) : (State.setRow p r s).dev = s.dev := by
  unfold State.setRow; split <;> rfl
@[simp] theorem setRow_settings (s : State) (p : Port) (r : Row) : (State.setRow p r s).settings = s.settings := by
  unfold State.setRow; split <;> rfl
@[simp] theorem setRow_ctl (s : State) (p : Port) (r : Row) : (State.setRow p r s).ctl = s.ctl := by
  unfold State.setRow; split <;> rfl
@[simp] theorem setRow_slots (s : State) (p : Port) (r : Row) : (State.setRow p r s).slots = s.slots := by
  unfold State.setRow; split <;> rfl
@[simp] theorem setRow_aux (s : State) (p : Port) (r : Row) : (State.setRow p r s).aux = s.aux := by
  unfold State.setRow; split <;> rfl
@[simp] theorem setRow_cps (s : State) (p : Port) (r : Row) : (State.setRow p r s).cps = s.cps := by
  unfold State.setRow; split <;> rfl
@[simp] theorem setRow_bays (s : State) (p : Port) (r : Row) : (State.setRow p r s).bays = s.bays := by
  unfold State.setRow; split <;> rfl
@[simp] theorem setRow_trays (s : State) (p : Port) (r : Row) : (State.setRow p r s).trays = s.trays := by
  unfold State.setRow; split <;> rfl
@[simp] theorem setRow_trayAux (s : State) (p : Port) (r : Row) : (State.setRow p r s).trayAux = s.trayAux := by
  unfold State.setRow; split <;> rfl
@[simp] theorem setRow_bus (s : State) (p : Port) (r : Row) : (State.setRow p r s).bus = s.bus := by
  unfold State.setRow; split <;> rfl
@[simp] theorem setRow_ledger (s : State) (p : Port) (r : Row) : (State.setRow p r s).ledger = s.ledger := by
  unfold State.setRow; split <;> rfl
@[simp] theorem setRow_cooling (s : State) (p : Port) (r : Row) : (State.setRow p r s).cooling = s.cooling := by
  unfold State.setRow; split <;> rfl
@[simp] theorem setRow_pool (s : State) (p : Port) (r : Row) : (State.setRow p r s).pool = s.pool := by
  unfold State.setRow; split <;> rfl
@[simp] theorem setRow_rows (s : State) (p : Port) (r : Row) : (State.setRow p r s).rows = put s.rows p.slot (put (look s.rows p.slot) p.idx r) := by
  unfold State.setRow; split
  · next h => simp [h, State.rowAt]
  · rfl
@[simp] theorem setRow_zoning (s : State) (p : Port) (r : Row) : (State.setRow p r s).zoning = s.zoning := by
  unfold State.setRow; split <;> rfl
@[simp] theorem setRow_arbiter (s : State) (p : Port) (r : Row) : (State.setRow p r s).arbiter = s.arbiter := by
  unfold State.setRow; split <;> rfl
@[simp] theorem setRow_alarms (s : State) (p : Port) (r : Row) : (State.setRow p r s).alarms = s.alarms := by
  unfold State.setRow; split <;> rfl
@[simp] theorem setRow_queues (s : State) (p : Port) (r : Row) : (State.setRow p r s).queues = s.queues := by
  unfold State.setRow; split <;> rfl
@[simp] theorem setRow_links (s : State) (p : Port) (r : Row) : (State.setRow p r s).links = s.links := by
  unfold State.setRow; split <;> rfl
@[simp] theorem setRow_store (s : State) (p : Port) (r : Row) : (State.setRow p r s).store = s.store := by
  unfold State.setRow; split <;> rfl
@[simp] theorem setRow_agenda (s : State) (p : Port) (r : Row) : (State.setRow p r s).agenda = s.agenda := by
  unfold State.setRow; split <;> rfl
@[simp] theorem setRow_pending (s : State) (p : Port) (r : Row) : (State.setRow p r s).pending = s.pending := by
  unfold State.setRow; split <;> rfl

/-! ### setAux -/
@[simp] theorem setAux_dev (s : State) (i : Slot) (a : SlotAux) : (State.setAux i a s).dev = s.dev := rfl
@[simp] theorem setAux_settings (s : State) (i : Slot) (a : SlotAux) : (State.setAux i a s).settings = s.settings := rfl
@[simp] theorem setAux_ctl (s : State) (i : Slot) (a : SlotAux) : (State.setAux i a s).ctl = s.ctl := rfl
@[simp] theorem setAux_slots (s : State) (i : Slot) (a : SlotAux) : (State.setAux i a s).slots = s.slots := rfl
@[simp] theorem setAux_aux (s : State) (i : Slot) (a : SlotAux) : (State.setAux i a s).aux = put s.aux i a := rfl
@[simp] theorem setAux_cps (s : State) (i : Slot) (a : SlotAux) : (State.setAux i a s).cps = s.cps := rfl
@[simp] theorem setAux_bays (s : State) (i : Slot) (a : SlotAux) : (State.setAux i a s).bays = s.bays := rfl
@[simp] theorem setAux_trays (s : State) (i : Slot) (a : SlotAux) : (State.setAux i a s).trays = s.trays := rfl
@[simp] theorem setAux_trayAux (s : State) (i : Slot) (a : SlotAux) : (State.setAux i a s).trayAux = s.trayAux := rfl
@[simp] theorem setAux_bus (s : State) (i : Slot) (a : SlotAux) : (State.setAux i a s).bus = s.bus := rfl
@[simp] theorem setAux_ledger (s : State) (i : Slot) (a : SlotAux) : (State.setAux i a s).ledger = s.ledger := rfl
@[simp] theorem setAux_cooling (s : State) (i : Slot) (a : SlotAux) : (State.setAux i a s).cooling = s.cooling := rfl
@[simp] theorem setAux_pool (s : State) (i : Slot) (a : SlotAux) : (State.setAux i a s).pool = s.pool := rfl
@[simp] theorem setAux_rows (s : State) (i : Slot) (a : SlotAux) : (State.setAux i a s).rows = s.rows := rfl
@[simp] theorem setAux_zoning (s : State) (i : Slot) (a : SlotAux) : (State.setAux i a s).zoning = s.zoning := rfl
@[simp] theorem setAux_arbiter (s : State) (i : Slot) (a : SlotAux) : (State.setAux i a s).arbiter = s.arbiter := rfl
@[simp] theorem setAux_alarms (s : State) (i : Slot) (a : SlotAux) : (State.setAux i a s).alarms = s.alarms := rfl
@[simp] theorem setAux_queues (s : State) (i : Slot) (a : SlotAux) : (State.setAux i a s).queues = s.queues := rfl
@[simp] theorem setAux_links (s : State) (i : Slot) (a : SlotAux) : (State.setAux i a s).links = s.links := rfl
@[simp] theorem setAux_counts (s : State) (i : Slot) (a : SlotAux) : (State.setAux i a s).counts = s.counts := rfl
@[simp] theorem setAux_store (s : State) (i : Slot) (a : SlotAux) : (State.setAux i a s).store = s.store := rfl
@[simp] theorem setAux_agenda (s : State) (i : Slot) (a : SlotAux) : (State.setAux i a s).agenda = s.agenda := rfl
@[simp] theorem setAux_pending (s : State) (i : Slot) (a : SlotAux) : (State.setAux i a s).pending = s.pending := rfl

/-! ### setTrayAux -/
@[simp] theorem setTrayAux_dev (s : State) (t : Tray) (a : TrayAux) : (State.setTrayAux t a s).dev = s.dev := rfl
@[simp] theorem setTrayAux_settings (s : State) (t : Tray) (a : TrayAux) : (State.setTrayAux t a s).settings = s.settings := rfl
@[simp] theorem setTrayAux_ctl (s : State) (t : Tray) (a : TrayAux) : (State.setTrayAux t a s).ctl = s.ctl := rfl
@[simp] theorem setTrayAux_slots (s : State) (t : Tray) (a : TrayAux) : (State.setTrayAux t a s).slots = s.slots := rfl
@[simp] theorem setTrayAux_aux (s : State) (t : Tray) (a : TrayAux) : (State.setTrayAux t a s).aux = s.aux := rfl
@[simp] theorem setTrayAux_cps (s : State) (t : Tray) (a : TrayAux) : (State.setTrayAux t a s).cps = s.cps := rfl
@[simp] theorem setTrayAux_bays (s : State) (t : Tray) (a : TrayAux) : (State.setTrayAux t a s).bays = s.bays := rfl
@[simp] theorem setTrayAux_trays (s : State) (t : Tray) (a : TrayAux) : (State.setTrayAux t a s).trays = s.trays := rfl
@[simp] theorem setTrayAux_trayAux (s : State) (t : Tray) (a : TrayAux) : (State.setTrayAux t a s).trayAux = put s.trayAux t a := rfl
@[simp] theorem setTrayAux_bus (s : State) (t : Tray) (a : TrayAux) : (State.setTrayAux t a s).bus = s.bus := rfl
@[simp] theorem setTrayAux_ledger (s : State) (t : Tray) (a : TrayAux) : (State.setTrayAux t a s).ledger = s.ledger := rfl
@[simp] theorem setTrayAux_cooling (s : State) (t : Tray) (a : TrayAux) : (State.setTrayAux t a s).cooling = s.cooling := rfl
@[simp] theorem setTrayAux_pool (s : State) (t : Tray) (a : TrayAux) : (State.setTrayAux t a s).pool = s.pool := rfl
@[simp] theorem setTrayAux_rows (s : State) (t : Tray) (a : TrayAux) : (State.setTrayAux t a s).rows = s.rows := rfl
@[simp] theorem setTrayAux_zoning (s : State) (t : Tray) (a : TrayAux) : (State.setTrayAux t a s).zoning = s.zoning := rfl
@[simp] theorem setTrayAux_arbiter (s : State) (t : Tray) (a : TrayAux) : (State.setTrayAux t a s).arbiter = s.arbiter := rfl
@[simp] theorem setTrayAux_alarms (s : State) (t : Tray) (a : TrayAux) : (State.setTrayAux t a s).alarms = s.alarms := rfl
@[simp] theorem setTrayAux_queues (s : State) (t : Tray) (a : TrayAux) : (State.setTrayAux t a s).queues = s.queues := rfl
@[simp] theorem setTrayAux_links (s : State) (t : Tray) (a : TrayAux) : (State.setTrayAux t a s).links = s.links := rfl
@[simp] theorem setTrayAux_counts (s : State) (t : Tray) (a : TrayAux) : (State.setTrayAux t a s).counts = s.counts := rfl
@[simp] theorem setTrayAux_store (s : State) (t : Tray) (a : TrayAux) : (State.setTrayAux t a s).store = s.store := rfl
@[simp] theorem setTrayAux_agenda (s : State) (t : Tray) (a : TrayAux) : (State.setTrayAux t a s).agenda = s.agenda := rfl
@[simp] theorem setTrayAux_pending (s : State) (t : Tray) (a : TrayAux) : (State.setTrayAux t a s).pending = s.pending := rfl

/-! ### setCtl -/
@[simp] theorem setCtl_dev (s : State) (p : Position) (c : PosCtl) : (State.setCtl p c s).dev = s.dev := rfl
@[simp] theorem setCtl_settings (s : State) (p : Position) (c : PosCtl) : (State.setCtl p c s).settings = s.settings := rfl
@[simp] theorem setCtl_ctl (s : State) (p : Position) (c : PosCtl) : (State.setCtl p c s).ctl = put s.ctl (Position.idx p) c := rfl
@[simp] theorem setCtl_slots (s : State) (p : Position) (c : PosCtl) : (State.setCtl p c s).slots = s.slots := rfl
@[simp] theorem setCtl_aux (s : State) (p : Position) (c : PosCtl) : (State.setCtl p c s).aux = s.aux := rfl
@[simp] theorem setCtl_cps (s : State) (p : Position) (c : PosCtl) : (State.setCtl p c s).cps = s.cps := rfl
@[simp] theorem setCtl_bays (s : State) (p : Position) (c : PosCtl) : (State.setCtl p c s).bays = s.bays := rfl
@[simp] theorem setCtl_trays (s : State) (p : Position) (c : PosCtl) : (State.setCtl p c s).trays = s.trays := rfl
@[simp] theorem setCtl_trayAux (s : State) (p : Position) (c : PosCtl) : (State.setCtl p c s).trayAux = s.trayAux := rfl
@[simp] theorem setCtl_bus (s : State) (p : Position) (c : PosCtl) : (State.setCtl p c s).bus = s.bus := rfl
@[simp] theorem setCtl_ledger (s : State) (p : Position) (c : PosCtl) : (State.setCtl p c s).ledger = s.ledger := rfl
@[simp] theorem setCtl_cooling (s : State) (p : Position) (c : PosCtl) : (State.setCtl p c s).cooling = s.cooling := rfl
@[simp] theorem setCtl_pool (s : State) (p : Position) (c : PosCtl) : (State.setCtl p c s).pool = s.pool := rfl
@[simp] theorem setCtl_rows (s : State) (p : Position) (c : PosCtl) : (State.setCtl p c s).rows = s.rows := rfl
@[simp] theorem setCtl_zoning (s : State) (p : Position) (c : PosCtl) : (State.setCtl p c s).zoning = s.zoning := rfl
@[simp] theorem setCtl_arbiter (s : State) (p : Position) (c : PosCtl) : (State.setCtl p c s).arbiter = s.arbiter := rfl
@[simp] theorem setCtl_alarms (s : State) (p : Position) (c : PosCtl) : (State.setCtl p c s).alarms = s.alarms := rfl
@[simp] theorem setCtl_queues (s : State) (p : Position) (c : PosCtl) : (State.setCtl p c s).queues = s.queues := rfl
@[simp] theorem setCtl_links (s : State) (p : Position) (c : PosCtl) : (State.setCtl p c s).links = s.links := rfl
@[simp] theorem setCtl_counts (s : State) (p : Position) (c : PosCtl) : (State.setCtl p c s).counts = s.counts := rfl
@[simp] theorem setCtl_store (s : State) (p : Position) (c : PosCtl) : (State.setCtl p c s).store = s.store := rfl
@[simp] theorem setCtl_agenda (s : State) (p : Position) (c : PosCtl) : (State.setCtl p c s).agenda = s.agenda := rfl
@[simp] theorem setCtl_pending (s : State) (p : Position) (c : PosCtl) : (State.setCtl p c s).pending = s.pending := rfl

/-! ### setZone -/
@[simp] theorem setZone_dev (s : State) (z : AirZone) (c : ZoneCtl) : (State.setZone z c s).dev = s.dev := rfl
@[simp] theorem setZone_settings (s : State) (z : AirZone) (c : ZoneCtl) : (State.setZone z c s).settings = s.settings := rfl
@[simp] theorem setZone_ctl (s : State) (z : AirZone) (c : ZoneCtl) : (State.setZone z c s).ctl = s.ctl := rfl
@[simp] theorem setZone_slots (s : State) (z : AirZone) (c : ZoneCtl) : (State.setZone z c s).slots = s.slots := rfl
@[simp] theorem setZone_aux (s : State) (z : AirZone) (c : ZoneCtl) : (State.setZone z c s).aux = s.aux := rfl
@[simp] theorem setZone_cps (s : State) (z : AirZone) (c : ZoneCtl) : (State.setZone z c s).cps = s.cps := rfl
@[simp] theorem setZone_bays (s : State) (z : AirZone) (c : ZoneCtl) : (State.setZone z c s).bays = s.bays := rfl
@[simp] theorem setZone_trays (s : State) (z : AirZone) (c : ZoneCtl) : (State.setZone z c s).trays = s.trays := rfl
@[simp] theorem setZone_trayAux (s : State) (z : AirZone) (c : ZoneCtl) : (State.setZone z c s).trayAux = s.trayAux := rfl
@[simp] theorem setZone_bus (s : State) (z : AirZone) (c : ZoneCtl) : (State.setZone z c s).bus = s.bus := rfl
@[simp] theorem setZone_ledger (s : State) (z : AirZone) (c : ZoneCtl) : (State.setZone z c s).ledger = s.ledger := rfl
@[simp] theorem setZone_cooling (s : State) (z : AirZone) (c : ZoneCtl) : (State.setZone z c s).cooling = { s.cooling with zones := put s.cooling.zones (AirZone.idx z) c } := rfl
@[simp] theorem setZone_pool (s : State) (z : AirZone) (c : ZoneCtl) : (State.setZone z c s).pool = s.pool := rfl
@[simp] theorem setZone_rows (s : State) (z : AirZone) (c : ZoneCtl) : (State.setZone z c s).rows = s.rows := rfl
@[simp] theorem setZone_zoning (s : State) (z : AirZone) (c : ZoneCtl) : (State.setZone z c s).zoning = s.zoning := rfl
@[simp] theorem setZone_arbiter (s : State) (z : AirZone) (c : ZoneCtl) : (State.setZone z c s).arbiter = s.arbiter := rfl
@[simp] theorem setZone_alarms (s : State) (z : AirZone) (c : ZoneCtl) : (State.setZone z c s).alarms = s.alarms := rfl
@[simp] theorem setZone_queues (s : State) (z : AirZone) (c : ZoneCtl) : (State.setZone z c s).queues = s.queues := rfl
@[simp] theorem setZone_links (s : State) (z : AirZone) (c : ZoneCtl) : (State.setZone z c s).links = s.links := rfl
@[simp] theorem setZone_counts (s : State) (z : AirZone) (c : ZoneCtl) : (State.setZone z c s).counts = s.counts := rfl
@[simp] theorem setZone_store (s : State) (z : AirZone) (c : ZoneCtl) : (State.setZone z c s).store = s.store := rfl
@[simp] theorem setZone_agenda (s : State) (z : AirZone) (c : ZoneCtl) : (State.setZone z c s).agenda = s.agenda := rfl
@[simp] theorem setZone_pending (s : State) (z : AirZone) (c : ZoneCtl) : (State.setZone z c s).pending = s.pending := rfl

/-! ### setLink -/
@[simp] theorem setLink_dev (s : State) (l : LinkId) (k : Link) : (State.setLink l k s).dev = s.dev := rfl
@[simp] theorem setLink_settings (s : State) (l : LinkId) (k : Link) : (State.setLink l k s).settings = s.settings := rfl
@[simp] theorem setLink_ctl (s : State) (l : LinkId) (k : Link) : (State.setLink l k s).ctl = s.ctl := rfl
@[simp] theorem setLink_slots (s : State) (l : LinkId) (k : Link) : (State.setLink l k s).slots = s.slots := rfl
@[simp] theorem setLink_aux (s : State) (l : LinkId) (k : Link) : (State.setLink l k s).aux = s.aux := rfl
@[simp] theorem setLink_cps (s : State) (l : LinkId) (k : Link) : (State.setLink l k s).cps = s.cps := rfl
@[simp] theorem setLink_bays (s : State) (l : LinkId) (k : Link) : (State.setLink l k s).bays = s.bays := rfl
@[simp] theorem setLink_trays (s : State) (l : LinkId) (k : Link) : (State.setLink l k s).trays = s.trays := rfl
@[simp] theorem setLink_trayAux (s : State) (l : LinkId) (k : Link) : (State.setLink l k s).trayAux = s.trayAux := rfl
@[simp] theorem setLink_bus (s : State) (l : LinkId) (k : Link) : (State.setLink l k s).bus = s.bus := rfl
@[simp] theorem setLink_ledger (s : State) (l : LinkId) (k : Link) : (State.setLink l k s).ledger = s.ledger := rfl
@[simp] theorem setLink_cooling (s : State) (l : LinkId) (k : Link) : (State.setLink l k s).cooling = s.cooling := rfl
@[simp] theorem setLink_pool (s : State) (l : LinkId) (k : Link) : (State.setLink l k s).pool = s.pool := rfl
@[simp] theorem setLink_rows (s : State) (l : LinkId) (k : Link) : (State.setLink l k s).rows = s.rows := rfl
@[simp] theorem setLink_zoning (s : State) (l : LinkId) (k : Link) : (State.setLink l k s).zoning = s.zoning := rfl
@[simp] theorem setLink_arbiter (s : State) (l : LinkId) (k : Link) : (State.setLink l k s).arbiter = s.arbiter := rfl
@[simp] theorem setLink_alarms (s : State) (l : LinkId) (k : Link) : (State.setLink l k s).alarms = s.alarms := rfl
@[simp] theorem setLink_queues (s : State) (l : LinkId) (k : Link) : (State.setLink l k s).queues = s.queues := rfl
@[simp] theorem setLink_links (s : State) (l : LinkId) (k : Link) : (State.setLink l k s).links = put s.links (LinkId.idx l) k := rfl
@[simp] theorem setLink_counts (s : State) (l : LinkId) (k : Link) : (State.setLink l k s).counts = s.counts := rfl
@[simp] theorem setLink_store (s : State) (l : LinkId) (k : Link) : (State.setLink l k s).store = s.store := rfl
@[simp] theorem setLink_agenda (s : State) (l : LinkId) (k : Link) : (State.setLink l k s).agenda = s.agenda := rfl
@[simp] theorem setLink_pending (s : State) (l : LinkId) (k : Link) : (State.setLink l k s).pending = s.pending := rfl

/-! ### setQueue -/
@[simp] theorem setQueue_dev (s : State) (l : LinkId) (q : EventQueue) : (State.setQueue l q s).dev = s.dev := rfl
@[simp] theorem setQueue_settings (s : State) (l : LinkId) (q : EventQueue) : (State.setQueue l q s).settings = s.settings := rfl
@[simp] theorem setQueue_ctl (s : State) (l : LinkId) (q : EventQueue) : (State.setQueue l q s).ctl = s.ctl := rfl
@[simp] theorem setQueue_slots (s : State) (l : LinkId) (q : EventQueue) : (State.setQueue l q s).slots = s.slots := rfl
@[simp] theorem setQueue_aux (s : State) (l : LinkId) (q : EventQueue) : (State.setQueue l q s).aux = s.aux := rfl
@[simp] theorem setQueue_cps (s : State) (l : LinkId) (q : EventQueue) : (State.setQueue l q s).cps = s.cps := rfl
@[simp] theorem setQueue_bays (s : State) (l : LinkId) (q : EventQueue) : (State.setQueue l q s).bays = s.bays := rfl
@[simp] theorem setQueue_trays (s : State) (l : LinkId) (q : EventQueue) : (State.setQueue l q s).trays = s.trays := rfl
@[simp] theorem setQueue_trayAux (s : State) (l : LinkId) (q : EventQueue) : (State.setQueue l q s).trayAux = s.trayAux := rfl
@[simp] theorem setQueue_bus (s : State) (l : LinkId) (q : EventQueue) : (State.setQueue l q s).bus = s.bus := rfl
@[simp] theorem setQueue_ledger (s : State) (l : LinkId) (q : EventQueue) : (State.setQueue l q s).ledger = s.ledger := rfl
@[simp] theorem setQueue_cooling (s : State) (l : LinkId) (q : EventQueue) : (State.setQueue l q s).cooling = s.cooling := rfl
@[simp] theorem setQueue_pool (s : State) (l : LinkId) (q : EventQueue) : (State.setQueue l q s).pool = s.pool := rfl
@[simp] theorem setQueue_rows (s : State) (l : LinkId) (q : EventQueue) : (State.setQueue l q s).rows = s.rows := rfl
@[simp] theorem setQueue_zoning (s : State) (l : LinkId) (q : EventQueue) : (State.setQueue l q s).zoning = s.zoning := rfl
@[simp] theorem setQueue_arbiter (s : State) (l : LinkId) (q : EventQueue) : (State.setQueue l q s).arbiter = s.arbiter := rfl
@[simp] theorem setQueue_alarms (s : State) (l : LinkId) (q : EventQueue) : (State.setQueue l q s).alarms = s.alarms := rfl
@[simp] theorem setQueue_queues (s : State) (l : LinkId) (q : EventQueue) : (State.setQueue l q s).queues = put s.queues (LinkId.idx l) q := rfl
@[simp] theorem setQueue_links (s : State) (l : LinkId) (q : EventQueue) : (State.setQueue l q s).links = s.links := rfl
@[simp] theorem setQueue_counts (s : State) (l : LinkId) (q : EventQueue) : (State.setQueue l q s).counts = s.counts := rfl
@[simp] theorem setQueue_store (s : State) (l : LinkId) (q : EventQueue) : (State.setQueue l q s).store = s.store := rfl
@[simp] theorem setQueue_agenda (s : State) (l : LinkId) (q : EventQueue) : (State.setQueue l q s).agenda = s.agenda := rfl
@[simp] theorem setQueue_pending (s : State) (l : LinkId) (q : EventQueue) : (State.setQueue l q s).pending = s.pending := rfl

/-! ### setStanding -/
@[simp] theorem setStanding_dev (s : State) (c : Ctl) (x : Standing) : (State.setStanding c x s).dev = s.dev := rfl
@[simp] theorem setStanding_settings (s : State) (c : Ctl) (x : Standing) : (State.setStanding c x s).settings = s.settings := rfl
@[simp] theorem setStanding_ctl (s : State) (c : Ctl) (x : Standing) : (State.setStanding c x s).ctl = s.ctl := rfl
@[simp] theorem setStanding_slots (s : State) (c : Ctl) (x : Standing) : (State.setStanding c x s).slots = s.slots := rfl
@[simp] theorem setStanding_aux (s : State) (c : Ctl) (x : Standing) : (State.setStanding c x s).aux = s.aux := rfl
@[simp] theorem setStanding_cps (s : State) (c : Ctl) (x : Standing) : (State.setStanding c x s).cps = s.cps := rfl
@[simp] theorem setStanding_bays (s : State) (c : Ctl) (x : Standing) : (State.setStanding c x s).bays = s.bays := rfl
@[simp] theorem setStanding_trays (s : State) (c : Ctl) (x : Standing) : (State.setStanding c x s).trays = s.trays := rfl
@[simp] theorem setStanding_trayAux (s : State) (c : Ctl) (x : Standing) : (State.setStanding c x s).trayAux = s.trayAux := rfl
@[simp] theorem setStanding_bus (s : State) (c : Ctl) (x : Standing) : (State.setStanding c x s).bus = s.bus := rfl
@[simp] theorem setStanding_ledger (s : State) (c : Ctl) (x : Standing) : (State.setStanding c x s).ledger = s.ledger := rfl
@[simp] theorem setStanding_cooling (s : State) (c : Ctl) (x : Standing) : (State.setStanding c x s).cooling = s.cooling := rfl
@[simp] theorem setStanding_pool (s : State) (c : Ctl) (x : Standing) : (State.setStanding c x s).pool = s.pool := rfl
@[simp] theorem setStanding_rows (s : State) (c : Ctl) (x : Standing) : (State.setStanding c x s).rows = s.rows := rfl
@[simp] theorem setStanding_zoning (s : State) (c : Ctl) (x : Standing) : (State.setStanding c x s).zoning = s.zoning := rfl
@[simp] theorem setStanding_arbiter (s : State) (c : Ctl) (x : Standing) : (State.setStanding c x s).arbiter = { s.arbiter with standing := put s.arbiter.standing c.idx x } := rfl
@[simp] theorem setStanding_alarms (s : State) (c : Ctl) (x : Standing) : (State.setStanding c x s).alarms = s.alarms := rfl
@[simp] theorem setStanding_queues (s : State) (c : Ctl) (x : Standing) : (State.setStanding c x s).queues = s.queues := rfl
@[simp] theorem setStanding_links (s : State) (c : Ctl) (x : Standing) : (State.setStanding c x s).links = s.links := rfl
@[simp] theorem setStanding_counts (s : State) (c : Ctl) (x : Standing) : (State.setStanding c x s).counts = s.counts := rfl
@[simp] theorem setStanding_store (s : State) (c : Ctl) (x : Standing) : (State.setStanding c x s).store = s.store := rfl
@[simp] theorem setStanding_agenda (s : State) (c : Ctl) (x : Standing) : (State.setStanding c x s).agenda = s.agenda := rfl
@[simp] theorem setStanding_pending (s : State) (c : Ctl) (x : Standing) : (State.setStanding c x s).pending = s.pending := rfl

/-! ### setLatches -/
@[simp] theorem setLatches_dev (s : State) (l : LinkId) (x : Latches) : (State.setLatches l x s).dev = s.dev := rfl
@[simp] theorem setLatches_settings (s : State) (l : LinkId) (x : Latches) : (State.setLatches l x s).settings = s.settings := rfl
@[simp] theorem setLatches_ctl (s : State) (l : LinkId) (x : Latches) : (State.setLatches l x s).ctl = s.ctl := rfl
@[simp] theorem setLatches_slots (s : State) (l : LinkId) (x : Latches) : (State.setLatches l x s).slots = s.slots := rfl
@[simp] theorem setLatches_aux (s : State) (l : LinkId) (x : Latches) : (State.setLatches l x s).aux = s.aux := rfl
@[simp] theorem setLatches_cps (s : State) (l : LinkId) (x : Latches) : (State.setLatches l x s).cps = s.cps := rfl
@[simp] theorem setLatches_bays (s : State) (l : LinkId) (x : Latches) : (State.setLatches l x s).bays = s.bays := rfl
@[simp] theorem setLatches_trays (s : State) (l : LinkId) (x : Latches) : (State.setLatches l x s).trays = s.trays := rfl
@[simp] theorem setLatches_trayAux (s : State) (l : LinkId) (x : Latches) : (State.setLatches l x s).trayAux = s.trayAux := rfl
@[simp] theorem setLatches_bus (s : State) (l : LinkId) (x : Latches) : (State.setLatches l x s).bus = s.bus := rfl
@[simp] theorem setLatches_ledger (s : State) (l : LinkId) (x : Latches) : (State.setLatches l x s).ledger = s.ledger := rfl
@[simp] theorem setLatches_cooling (s : State) (l : LinkId) (x : Latches) : (State.setLatches l x s).cooling = s.cooling := rfl
@[simp] theorem setLatches_pool (s : State) (l : LinkId) (x : Latches) : (State.setLatches l x s).pool = s.pool := rfl
@[simp] theorem setLatches_rows (s : State) (l : LinkId) (x : Latches) : (State.setLatches l x s).rows = s.rows := rfl
@[simp] theorem setLatches_zoning (s : State) (l : LinkId) (x : Latches) : (State.setLatches l x s).zoning = s.zoning := rfl
@[simp] theorem setLatches_arbiter (s : State) (l : LinkId) (x : Latches) : (State.setLatches l x s).arbiter = { s.arbiter with latches := put s.arbiter.latches (LinkId.idx l) x } := rfl
@[simp] theorem setLatches_alarms (s : State) (l : LinkId) (x : Latches) : (State.setLatches l x s).alarms = s.alarms := rfl
@[simp] theorem setLatches_queues (s : State) (l : LinkId) (x : Latches) : (State.setLatches l x s).queues = s.queues := rfl
@[simp] theorem setLatches_links (s : State) (l : LinkId) (x : Latches) : (State.setLatches l x s).links = s.links := rfl
@[simp] theorem setLatches_counts (s : State) (l : LinkId) (x : Latches) : (State.setLatches l x s).counts = s.counts := rfl
@[simp] theorem setLatches_store (s : State) (l : LinkId) (x : Latches) : (State.setLatches l x s).store = s.store := rfl
@[simp] theorem setLatches_agenda (s : State) (l : LinkId) (x : Latches) : (State.setLatches l x s).agenda = s.agenda := rfl
@[simp] theorem setLatches_pending (s : State) (l : LinkId) (x : Latches) : (State.setLatches l x s).pending = s.pending := rfl

/-! ### report -/
@[simp] theorem report_dev (s : State) (k : EventKind) (x a b : Half) : (State.report k x a b s).dev = s.dev := rfl
@[simp] theorem report_settings (s : State) (k : EventKind) (x a b : Half) : (State.report k x a b s).settings = s.settings := rfl
@[simp] theorem report_ctl (s : State) (k : EventKind) (x a b : Half) : (State.report k x a b s).ctl = s.ctl := rfl
@[simp] theorem report_slots (s : State) (k : EventKind) (x a b : Half) : (State.report k x a b s).slots = s.slots := rfl
@[simp] theorem report_aux (s : State) (k : EventKind) (x a b : Half) : (State.report k x a b s).aux = s.aux := rfl
@[simp] theorem report_cps (s : State) (k : EventKind) (x a b : Half) : (State.report k x a b s).cps = s.cps := rfl
@[simp] theorem report_bays (s : State) (k : EventKind) (x a b : Half) : (State.report k x a b s).bays = s.bays := rfl
@[simp] theorem report_trays (s : State) (k : EventKind) (x a b : Half) : (State.report k x a b s).trays = s.trays := rfl
@[simp] theorem report_trayAux (s : State) (k : EventKind) (x a b : Half) : (State.report k x a b s).trayAux = s.trayAux := rfl
@[simp] theorem report_bus (s : State) (k : EventKind) (x a b : Half) : (State.report k x a b s).bus = s.bus := rfl
@[simp] theorem report_ledger (s : State) (k : EventKind) (x a b : Half) : (State.report k x a b s).ledger = s.ledger := rfl
@[simp] theorem report_cooling (s : State) (k : EventKind) (x a b : Half) : (State.report k x a b s).cooling = s.cooling := rfl
@[simp] theorem report_pool (s : State) (k : EventKind) (x a b : Half) : (State.report k x a b s).pool = s.pool := rfl
@[simp] theorem report_rows (s : State) (k : EventKind) (x a b : Half) : (State.report k x a b s).rows = s.rows := rfl
@[simp] theorem report_zoning (s : State) (k : EventKind) (x a b : Half) : (State.report k x a b s).zoning = s.zoning := rfl
@[simp] theorem report_arbiter (s : State) (k : EventKind) (x a b : Half) : (State.report k x a b s).arbiter = s.arbiter := rfl
@[simp] theorem report_alarms (s : State) (k : EventKind) (x a b : Half) : (State.report k x a b s).alarms = s.alarms := rfl
@[simp] theorem report_queues (s : State) (k : EventKind) (x a b : Half) : (State.report k x a b s).queues = s.queues.map fun q => EventQueue.offer q k x a b s.arbiter.epoch := rfl
@[simp] theorem report_links (s : State) (k : EventKind) (x a b : Half) : (State.report k x a b s).links = s.links := rfl
@[simp] theorem report_counts (s : State) (k : EventKind) (x a b : Half) : (State.report k x a b s).counts = s.counts := rfl
@[simp] theorem report_store (s : State) (k : EventKind) (x a b : Half) : (State.report k x a b s).store = s.store := rfl
@[simp] theorem report_agenda (s : State) (k : EventKind) (x a b : Half) : (State.report k x a b s).agenda = s.agenda := rfl
@[simp] theorem report_pending (s : State) (k : EventKind) (x a b : Half) : (State.report k x a b s).pending = s.pending := rfl

/-! ### respond -/
@[simp] theorem respond_dev (s : State) (l : LinkId) (tag : Byte) (st : Status) (r : Results) : (State.respond l tag st r s).dev = s.dev := rfl
@[simp] theorem respond_settings (s : State) (l : LinkId) (tag : Byte) (st : Status) (r : Results) : (State.respond l tag st r s).settings = s.settings := rfl
@[simp] theorem respond_ctl (s : State) (l : LinkId) (tag : Byte) (st : Status) (r : Results) : (State.respond l tag st r s).ctl = s.ctl := rfl
@[simp] theorem respond_slots (s : State) (l : LinkId) (tag : Byte) (st : Status) (r : Results) : (State.respond l tag st r s).slots = s.slots := rfl
@[simp] theorem respond_aux (s : State) (l : LinkId) (tag : Byte) (st : Status) (r : Results) : (State.respond l tag st r s).aux = s.aux := rfl
@[simp] theorem respond_cps (s : State) (l : LinkId) (tag : Byte) (st : Status) (r : Results) : (State.respond l tag st r s).cps = s.cps := rfl
@[simp] theorem respond_bays (s : State) (l : LinkId) (tag : Byte) (st : Status) (r : Results) : (State.respond l tag st r s).bays = s.bays := rfl
@[simp] theorem respond_trays (s : State) (l : LinkId) (tag : Byte) (st : Status) (r : Results) : (State.respond l tag st r s).trays = s.trays := rfl
@[simp] theorem respond_trayAux (s : State) (l : LinkId) (tag : Byte) (st : Status) (r : Results) : (State.respond l tag st r s).trayAux = s.trayAux := rfl
@[simp] theorem respond_bus (s : State) (l : LinkId) (tag : Byte) (st : Status) (r : Results) : (State.respond l tag st r s).bus = s.bus := rfl
@[simp] theorem respond_ledger (s : State) (l : LinkId) (tag : Byte) (st : Status) (r : Results) : (State.respond l tag st r s).ledger = s.ledger := rfl
@[simp] theorem respond_cooling (s : State) (l : LinkId) (tag : Byte) (st : Status) (r : Results) : (State.respond l tag st r s).cooling = s.cooling := rfl
@[simp] theorem respond_pool (s : State) (l : LinkId) (tag : Byte) (st : Status) (r : Results) : (State.respond l tag st r s).pool = s.pool := rfl
@[simp] theorem respond_rows (s : State) (l : LinkId) (tag : Byte) (st : Status) (r : Results) : (State.respond l tag st r s).rows = s.rows := rfl
@[simp] theorem respond_zoning (s : State) (l : LinkId) (tag : Byte) (st : Status) (r : Results) : (State.respond l tag st r s).zoning = s.zoning := rfl
@[simp] theorem respond_arbiter (s : State) (l : LinkId) (tag : Byte) (st : Status) (r : Results) : (State.respond l tag st r s).arbiter = s.arbiter := rfl
@[simp] theorem respond_alarms (s : State) (l : LinkId) (tag : Byte) (st : Status) (r : Results) : (State.respond l tag st r s).alarms = s.alarms := rfl
@[simp] theorem respond_queues (s : State) (l : LinkId) (tag : Byte) (st : Status) (r : Results) : (State.respond l tag st r s).queues = s.queues := rfl
@[simp] theorem respond_links (s : State) (l : LinkId) (tag : Byte) (st : Status) (r : Results) : (State.respond l tag st r s).links = put s.links (LinkId.idx l) { s.linkAt l with response := some ⟨tag, st, r⟩ } := rfl
@[simp] theorem respond_counts (s : State) (l : LinkId) (tag : Byte) (st : Status) (r : Results) : (State.respond l tag st r s).counts = s.counts := rfl
@[simp] theorem respond_store (s : State) (l : LinkId) (tag : Byte) (st : Status) (r : Results) : (State.respond l tag st r s).store = s.store := rfl
@[simp] theorem respond_agenda (s : State) (l : LinkId) (tag : Byte) (st : Status) (r : Results) : (State.respond l tag st r s).agenda = s.agenda := rfl
@[simp] theorem respond_pending (s : State) (l : LinkId) (tag : Byte) (st : Status) (r : Results) : (State.respond l tag st r s).pending = s.pending := rfl

/-! ### markDirty -/
@[simp] theorem markDirty_dev (s : State) (x : StoreSection) : (State.markDirty x s).dev = s.dev := rfl
@[simp] theorem markDirty_settings (s : State) (x : StoreSection) : (State.markDirty x s).settings = s.settings := rfl
@[simp] theorem markDirty_ctl (s : State) (x : StoreSection) : (State.markDirty x s).ctl = s.ctl := rfl
@[simp] theorem markDirty_slots (s : State) (x : StoreSection) : (State.markDirty x s).slots = s.slots := rfl
@[simp] theorem markDirty_aux (s : State) (x : StoreSection) : (State.markDirty x s).aux = s.aux := rfl
@[simp] theorem markDirty_cps (s : State) (x : StoreSection) : (State.markDirty x s).cps = s.cps := rfl
@[simp] theorem markDirty_bays (s : State) (x : StoreSection) : (State.markDirty x s).bays = s.bays := rfl
@[simp] theorem markDirty_trays (s : State) (x : StoreSection) : (State.markDirty x s).trays = s.trays := rfl
@[simp] theorem markDirty_trayAux (s : State) (x : StoreSection) : (State.markDirty x s).trayAux = s.trayAux := rfl
@[simp] theorem markDirty_bus (s : State) (x : StoreSection) : (State.markDirty x s).bus = s.bus := rfl
@[simp] theorem markDirty_ledger (s : State) (x : StoreSection) : (State.markDirty x s).ledger = s.ledger := rfl
@[simp] theorem markDirty_cooling (s : State) (x : StoreSection) : (State.markDirty x s).cooling = s.cooling := rfl
@[simp] theorem markDirty_pool (s : State) (x : StoreSection) : (State.markDirty x s).pool = s.pool := rfl
@[simp] theorem markDirty_rows (s : State) (x : StoreSection) : (State.markDirty x s).rows = s.rows := rfl
@[simp] theorem markDirty_zoning (s : State) (x : StoreSection) : (State.markDirty x s).zoning = s.zoning := rfl
@[simp] theorem markDirty_arbiter (s : State) (x : StoreSection) : (State.markDirty x s).arbiter = s.arbiter := rfl
@[simp] theorem markDirty_alarms (s : State) (x : StoreSection) : (State.markDirty x s).alarms = s.alarms := rfl
@[simp] theorem markDirty_queues (s : State) (x : StoreSection) : (State.markDirty x s).queues = s.queues := rfl
@[simp] theorem markDirty_links (s : State) (x : StoreSection) : (State.markDirty x s).links = s.links := rfl
@[simp] theorem markDirty_counts (s : State) (x : StoreSection) : (State.markDirty x s).counts = s.counts := rfl
@[simp] theorem markDirty_store (s : State) (x : StoreSection) : (State.markDirty x s).store = { s.store with dirty := put s.store.dirty (StoreSection.idx x) true } := rfl
@[simp] theorem markDirty_agenda (s : State) (x : StoreSection) : (State.markDirty x s).agenda = s.agenda := rfl
@[simp] theorem markDirty_pending (s : State) (x : StoreSection) : (State.markDirty x s).pending = s.pending := rfl

/-! ### changeSettings -/
@[simp] theorem changeSettings_dev (s : State) (f : Settings) : (State.changeSettings f s).dev = s.dev := by
  unfold State.changeSettings; split <;> rfl
@[simp] theorem changeSettings_settings (s : State) (f : Settings) : (State.changeSettings f s).settings = f := by
  unfold State.changeSettings; split
  · next h => simp [h]
  · rfl
@[simp] theorem changeSettings_ctl (s : State) (f : Settings) : (State.changeSettings f s).ctl = s.ctl := by
  unfold State.changeSettings; split <;> rfl
@[simp] theorem changeSettings_slots (s : State) (f : Settings) : (State.changeSettings f s).slots = s.slots := by
  unfold State.changeSettings; split <;> rfl
@[simp] theorem changeSettings_aux (s : State) (f : Settings) : (State.changeSettings f s).aux = s.aux := by
  unfold State.changeSettings; split <;> rfl
@[simp] theorem changeSettings_cps (s : State) (f : Settings) : (State.changeSettings f s).cps = s.cps := by
  unfold State.changeSettings; split <;> rfl
@[simp] theorem changeSettings_bays (s : State) (f : Settings) : (State.changeSettings f s).bays = s.bays := by
  unfold State.changeSettings; split <;> rfl
@[simp] theorem changeSettings_trays (s : State) (f : Settings) : (State.changeSettings f s).trays = s.trays := by
  unfold State.changeSettings; split <;> rfl
@[simp] theorem changeSettings_trayAux (s : State) (f : Settings) : (State.changeSettings f s).trayAux = s.trayAux := by
  unfold State.changeSettings; split <;> rfl
@[simp] theorem changeSettings_bus (s : State) (f : Settings) : (State.changeSettings f s).bus = s.bus := by
  unfold State.changeSettings; split <;> rfl
@[simp] theorem changeSettings_ledger (s : State) (f : Settings) : (State.changeSettings f s).ledger = s.ledger := by
  unfold State.changeSettings; split <;> rfl
@[simp] theorem changeSettings_cooling (s : State) (f : Settings) : (State.changeSettings f s).cooling = s.cooling := by
  unfold State.changeSettings; split <;> rfl
@[simp] theorem changeSettings_pool (s : State) (f : Settings) : (State.changeSettings f s).pool = s.pool := by
  unfold State.changeSettings; split <;> rfl
@[simp] theorem changeSettings_rows (s : State) (f : Settings) : (State.changeSettings f s).rows = s.rows := by
  unfold State.changeSettings; split <;> rfl
@[simp] theorem changeSettings_zoning (s : State) (f : Settings) : (State.changeSettings f s).zoning = s.zoning := by
  unfold State.changeSettings; split <;> rfl
@[simp] theorem changeSettings_arbiter (s : State) (f : Settings) : (State.changeSettings f s).arbiter = s.arbiter := by
  unfold State.changeSettings; split <;> rfl
@[simp] theorem changeSettings_alarms (s : State) (f : Settings) : (State.changeSettings f s).alarms = s.alarms := by
  unfold State.changeSettings; split <;> rfl
@[simp] theorem changeSettings_queues (s : State) (f : Settings) : (State.changeSettings f s).queues = s.queues := by
  unfold State.changeSettings; split <;> rfl
@[simp] theorem changeSettings_links (s : State) (f : Settings) : (State.changeSettings f s).links = s.links := by
  unfold State.changeSettings; split <;> rfl
@[simp] theorem changeSettings_counts (s : State) (f : Settings) : (State.changeSettings f s).counts = s.counts := by
  unfold State.changeSettings; split <;> rfl
@[simp] theorem changeSettings_agenda (s : State) (f : Settings) : (State.changeSettings f s).agenda = s.agenda := by
  unfold State.changeSettings; split <;> rfl
@[simp] theorem changeSettings_pending (s : State) (f : Settings) : (State.changeSettings f s).pending = s.pending := by
  unfold State.changeSettings; split <;> rfl

/-! ### hand -/
@[simp] theorem hand_dev (s : State) (t : Task) : (State.hand t s).dev = s.dev := by
  unfold State.hand; split <;> rfl
@[simp] theorem hand_settings (s : State) (t : Task) : (State.hand t s).settings = s.settings := by
  unfold State.hand; split <;> rfl
@[simp] theorem hand_ctl (s : State) (t : Task) : (State.hand t s).ctl = s.ctl := by
  unfold State.hand; split <;> rfl
@[simp] theorem hand_slots (s : State) (t : Task) : (State.hand t s).slots = s.slots := by
  unfold State.hand; split <;> rfl
@[simp] theorem hand_aux (s : State) (t : Task) : (State.hand t s).aux = s.aux := by
  unfold State.hand; split <;> rfl
@[simp] theorem hand_cps (s : State) (t : Task) : (State.hand t s).cps = s.cps := by
  unfold State.hand; split <;> rfl
@[simp] theorem hand_bays (s : State) (t : Task) : (State.hand t s).bays = s.bays := by
  unfold State.hand; split <;> rfl
@[simp] theorem hand_trays (s : State) (t : Task) : (State.hand t s).trays = s.trays := by
  unfold State.hand; split <;> rfl
@[simp] theorem hand_trayAux (s : State) (t : Task) : (State.hand t s).trayAux = s.trayAux := by
  unfold State.hand; split <;> rfl
@[simp] theorem hand_bus (s : State) (t : Task) : (State.hand t s).bus = s.bus := by
  unfold State.hand; split <;> rfl
@[simp] theorem hand_ledger (s : State) (t : Task) : (State.hand t s).ledger = s.ledger := by
  unfold State.hand; split <;> rfl
@[simp] theorem hand_cooling (s : State) (t : Task) : (State.hand t s).cooling = s.cooling := by
  unfold State.hand; split <;> rfl
@[simp] theorem hand_pool (s : State) (t : Task) : (State.hand t s).pool = s.pool := by
  unfold State.hand; split <;> rfl
@[simp] theorem hand_rows (s : State) (t : Task) : (State.hand t s).rows = s.rows := by
  unfold State.hand; split <;> rfl
@[simp] theorem hand_zoning (s : State) (t : Task) : (State.hand t s).zoning = s.zoning := by
  unfold State.hand; split <;> rfl
@[simp] theorem hand_arbiter (s : State) (t : Task) : (State.hand t s).arbiter = s.arbiter := by
  unfold State.hand; split <;> rfl
@[simp] theorem hand_alarms (s : State) (t : Task) : (State.hand t s).alarms = s.alarms := by
  unfold State.hand; split <;> rfl
@[simp] theorem hand_queues (s : State) (t : Task) : (State.hand t s).queues = s.queues := by
  unfold State.hand; split <;> rfl
@[simp] theorem hand_links (s : State) (t : Task) : (State.hand t s).links = s.links := by
  unfold State.hand; split <;> rfl
@[simp] theorem hand_counts (s : State) (t : Task) : (State.hand t s).counts = s.counts := by
  unfold State.hand; split <;> rfl
@[simp] theorem hand_store (s : State) (t : Task) : (State.hand t s).store = s.store := by
  unfold State.hand; split <;> rfl
@[simp] theorem hand_pending (s : State) (t : Task) : (State.hand t s).pending = s.pending := by
  unfold State.hand; split <;> rfl

/-! ### applyCondition -/
@[simp] theorem applyCondition_dev (s : State) (n : Fin 57) (v : Bool) : (State.applyCondition n v s).dev = s.dev := by
  unfold State.applyCondition; dsimp only; split <;> rfl
@[simp] theorem applyCondition_settings (s : State) (n : Fin 57) (v : Bool) : (State.applyCondition n v s).settings = s.settings := by
  unfold State.applyCondition; dsimp only; split <;> rfl
@[simp] theorem applyCondition_ctl (s : State) (n : Fin 57) (v : Bool) : (State.applyCondition n v s).ctl = s.ctl := by
  unfold State.applyCondition; dsimp only; split <;> rfl
@[simp] theorem applyCondition_slots (s : State) (n : Fin 57) (v : Bool) : (State.applyCondition n v s).slots = s.slots := by
  unfold State.applyCondition; dsimp only; split <;> rfl
@[simp] theorem applyCondition_aux (s : State) (n : Fin 57) (v : Bool) : (State.applyCondition n v s).aux = s.aux := by
  unfold State.applyCondition; dsimp only; split <;> rfl
@[simp] theorem applyCondition_cps (s : State) (n : Fin 57) (v : Bool) : (State.applyCondition n v s).cps = s.cps := by
  unfold State.applyCondition; dsimp only; split <;> rfl
@[simp] theorem applyCondition_bays (s : State) (n : Fin 57) (v : Bool) : (State.applyCondition n v s).bays = s.bays := by
  unfold State.applyCondition; dsimp only; split <;> rfl
@[simp] theorem applyCondition_trays (s : State) (n : Fin 57) (v : Bool) : (State.applyCondition n v s).trays = s.trays := by
  unfold State.applyCondition; dsimp only; split <;> rfl
@[simp] theorem applyCondition_trayAux (s : State) (n : Fin 57) (v : Bool) : (State.applyCondition n v s).trayAux = s.trayAux := by
  unfold State.applyCondition; dsimp only; split <;> rfl
@[simp] theorem applyCondition_bus (s : State) (n : Fin 57) (v : Bool) : (State.applyCondition n v s).bus = s.bus := by
  unfold State.applyCondition; dsimp only; split <;> rfl
@[simp] theorem applyCondition_ledger (s : State) (n : Fin 57) (v : Bool) : (State.applyCondition n v s).ledger = s.ledger := by
  unfold State.applyCondition; dsimp only; split <;> rfl
@[simp] theorem applyCondition_cooling (s : State) (n : Fin 57) (v : Bool) : (State.applyCondition n v s).cooling = s.cooling := by
  unfold State.applyCondition; dsimp only; split <;> rfl
@[simp] theorem applyCondition_pool (s : State) (n : Fin 57) (v : Bool) : (State.applyCondition n v s).pool = s.pool := by
  unfold State.applyCondition; dsimp only; split <;> rfl
@[simp] theorem applyCondition_rows (s : State) (n : Fin 57) (v : Bool) : (State.applyCondition n v s).rows = s.rows := by
  unfold State.applyCondition; dsimp only; split <;> rfl
@[simp] theorem applyCondition_zoning (s : State) (n : Fin 57) (v : Bool) : (State.applyCondition n v s).zoning = s.zoning := by
  unfold State.applyCondition; dsimp only; split <;> rfl
@[simp] theorem applyCondition_arbiter (s : State) (n : Fin 57) (v : Bool) : (State.applyCondition n v s).arbiter = s.arbiter := by
  unfold State.applyCondition; dsimp only; split <;> rfl
@[simp] theorem applyCondition_links (s : State) (n : Fin 57) (v : Bool) : (State.applyCondition n v s).links = s.links := by
  unfold State.applyCondition; dsimp only; split <;> rfl
@[simp] theorem applyCondition_store (s : State) (n : Fin 57) (v : Bool) : (State.applyCondition n v s).store = s.store := by
  unfold State.applyCondition; dsimp only; split <;> rfl
@[simp] theorem applyCondition_agenda (s : State) (n : Fin 57) (v : Bool) : (State.applyCondition n v s).agenda = s.agenda := by
  unfold State.applyCondition; dsimp only; split <;> rfl
@[simp] theorem applyCondition_pending (s : State) (n : Fin 57) (v : Bool) : (State.applyCondition n v s).pending = s.pending := by
  unfold State.applyCondition; dsimp only; split <;> rfl

/-! ### condition -/
@[simp] theorem condition_dev (s : State) (n : Fin 57) (v : Bool) : (State.condition n v s).dev = s.dev := by
  unfold State.condition; split
  · rfl
  · simp
@[simp] theorem condition_settings (s : State) (n : Fin 57) (v : Bool) : (State.condition n v s).settings = s.settings := by
  unfold State.condition; split
  · rfl
  · simp
@[simp] theorem condition_ctl (s : State) (n : Fin 57) (v : Bool) : (State.condition n v s).ctl = s.ctl := by
  unfold State.condition; split
  · rfl
  · simp
@[simp] theorem condition_slots (s : State) (n : Fin 57) (v : Bool) : (State.condition n v s).slots = s.slots := by
  unfold State.condition; split
  · rfl
  · simp
@[simp] theorem condition_aux (s : State) (n : Fin 57) (v : Bool) : (State.condition n v s).aux = s.aux := by
  unfold State.condition; split
  · rfl
  · simp
@[simp] theorem condition_cps (s : State) (n : Fin 57) (v : Bool) : (State.condition n v s).cps = s.cps := by
  unfold State.condition; split
  · rfl
  · simp
@[simp] theorem condition_bays (s : State) (n : Fin 57) (v : Bool) : (State.condition n v s).bays = s.bays := by
  unfold State.condition; split
  · rfl
  · simp
@[simp] theorem condition_trays (s : State) (n : Fin 57) (v : Bool) : (State.condition n v s).trays = s.trays := by
  unfold State.condition; split
  · rfl
  · simp
@[simp] theorem condition_trayAux (s : State) (n : Fin 57) (v : Bool) : (State.condition n v s).trayAux = s.trayAux := by
  unfold State.condition; split
  · rfl
  · simp
@[simp] theorem condition_bus (s : State) (n : Fin 57) (v : Bool) : (State.condition n v s).bus = s.bus := by
  unfold State.condition; split
  · rfl
  · simp
@[simp] theorem condition_ledger (s : State) (n : Fin 57) (v : Bool) : (State.condition n v s).ledger = s.ledger := by
  unfold State.condition; split
  · rfl
  · simp
@[simp] theorem condition_cooling (s : State) (n : Fin 57) (v : Bool) : (State.condition n v s).cooling = s.cooling := by
  unfold State.condition; split
  · rfl
  · simp
@[simp] theorem condition_pool (s : State) (n : Fin 57) (v : Bool) : (State.condition n v s).pool = s.pool := by
  unfold State.condition; split
  · rfl
  · simp
@[simp] theorem condition_rows (s : State) (n : Fin 57) (v : Bool) : (State.condition n v s).rows = s.rows := by
  unfold State.condition; split
  · rfl
  · simp
@[simp] theorem condition_zoning (s : State) (n : Fin 57) (v : Bool) : (State.condition n v s).zoning = s.zoning := by
  unfold State.condition; split
  · rfl
  · simp
@[simp] theorem condition_arbiter (s : State) (n : Fin 57) (v : Bool) : (State.condition n v s).arbiter = s.arbiter := by
  unfold State.condition; split
  · rfl
  · simp
@[simp] theorem condition_links (s : State) (n : Fin 57) (v : Bool) : (State.condition n v s).links = s.links := by
  unfold State.condition; split
  · rfl
  · simp
@[simp] theorem condition_store (s : State) (n : Fin 57) (v : Bool) : (State.condition n v s).store = s.store := by
  unfold State.condition; split
  · rfl
  · simp
@[simp] theorem condition_agenda (s : State) (n : Fin 57) (v : Bool) : (State.condition n v s).agenda = s.agenda := by
  unfold State.condition; split
  · rfl
  · simp
@[simp] theorem condition_pending (s : State) (n : Fin 57) (v : Bool) : (State.condition n v s).pending = s.pending := by
  unfold State.condition; split
  · rfl
  · simp

/-! ### acknowledge -/
@[simp] theorem acknowledge_dev (s : State) (c : Half) (n : Fin 57) : (State.acknowledge c n s).dev = s.dev := by
  unfold State.acknowledge; dsimp only; split <;> rfl
@[simp] theorem acknowledge_settings (s : State) (c : Half) (n : Fin 57) : (State.acknowledge c n s).settings = s.settings := by
  unfold State.acknowledge; dsimp only; split <;> rfl
@[simp] theorem acknowledge_ctl (s : State) (c : Half) (n : Fin 57) : (State.acknowledge c n s).ctl = s.ctl := by
  unfold State.acknowledge; dsimp only; split <;> rfl
@[simp] theorem acknowledge_slots (s : State) (c : Half) (n : Fin 57) : (State.acknowledge c n s).slots = s.slots := by
  unfold State.acknowledge; dsimp only; split <;> rfl
@[simp] theorem acknowledge_aux (s : State) (c : Half) (n : Fin 57) : (State.acknowledge c n s).aux = s.aux := by
  unfold State.acknowledge; dsimp only; split <;> rfl
@[simp] theorem acknowledge_cps (s : State) (c : Half) (n : Fin 57) : (State.acknowledge c n s).cps = s.cps := by
  unfold State.acknowledge; dsimp only; split <;> rfl
@[simp] theorem acknowledge_bays (s : State) (c : Half) (n : Fin 57) : (State.acknowledge c n s).bays = s.bays := by
  unfold State.acknowledge; dsimp only; split <;> rfl
@[simp] theorem acknowledge_trays (s : State) (c : Half) (n : Fin 57) : (State.acknowledge c n s).trays = s.trays := by
  unfold State.acknowledge; dsimp only; split <;> rfl
@[simp] theorem acknowledge_trayAux (s : State) (c : Half) (n : Fin 57) : (State.acknowledge c n s).trayAux = s.trayAux := by
  unfold State.acknowledge; dsimp only; split <;> rfl
@[simp] theorem acknowledge_bus (s : State) (c : Half) (n : Fin 57) : (State.acknowledge c n s).bus = s.bus := by
  unfold State.acknowledge; dsimp only; split <;> rfl
@[simp] theorem acknowledge_ledger (s : State) (c : Half) (n : Fin 57) : (State.acknowledge c n s).ledger = s.ledger := by
  unfold State.acknowledge; dsimp only; split <;> rfl
@[simp] theorem acknowledge_cooling (s : State) (c : Half) (n : Fin 57) : (State.acknowledge c n s).cooling = s.cooling := by
  unfold State.acknowledge; dsimp only; split <;> rfl
@[simp] theorem acknowledge_pool (s : State) (c : Half) (n : Fin 57) : (State.acknowledge c n s).pool = s.pool := by
  unfold State.acknowledge; dsimp only; split <;> rfl
@[simp] theorem acknowledge_rows (s : State) (c : Half) (n : Fin 57) : (State.acknowledge c n s).rows = s.rows := by
  unfold State.acknowledge; dsimp only; split <;> rfl
@[simp] theorem acknowledge_zoning (s : State) (c : Half) (n : Fin 57) : (State.acknowledge c n s).zoning = s.zoning := by
  unfold State.acknowledge; dsimp only; split <;> rfl
@[simp] theorem acknowledge_arbiter (s : State) (c : Half) (n : Fin 57) : (State.acknowledge c n s).arbiter = s.arbiter := by
  unfold State.acknowledge; dsimp only; split <;> rfl
@[simp] theorem acknowledge_links (s : State) (c : Half) (n : Fin 57) : (State.acknowledge c n s).links = s.links := by
  unfold State.acknowledge; dsimp only; split <;> rfl
@[simp] theorem acknowledge_store (s : State) (c : Half) (n : Fin 57) : (State.acknowledge c n s).store = s.store := by
  unfold State.acknowledge; dsimp only; split <;> rfl
@[simp] theorem acknowledge_agenda (s : State) (c : Half) (n : Fin 57) : (State.acknowledge c n s).agenda = s.agenda := by
  unfold State.acknowledge; dsimp only; split <;> rfl
@[simp] theorem acknowledge_pending (s : State) (c : Half) (n : Fin 57) : (State.acknowledge c n s).pending = s.pending := by
  unfold State.acknowledge; dsimp only; split <;> rfl

/-! ### startTxn -/
@[simp] theorem startTxn_dev (s : State) (t : Txn) : (State.startTxn t s).dev = s.dev := rfl
@[simp] theorem startTxn_settings (s : State) (t : Txn) : (State.startTxn t s).settings = s.settings := rfl
@[simp] theorem startTxn_ctl (s : State) (t : Txn) : (State.startTxn t s).ctl = s.ctl := rfl
@[simp] theorem startTxn_slots (s : State) (t : Txn) : (State.startTxn t s).slots = s.slots := rfl
@[simp] theorem startTxn_aux (s : State) (t : Txn) : (State.startTxn t s).aux = s.aux := rfl
@[simp] theorem startTxn_cps (s : State) (t : Txn) : (State.startTxn t s).cps = s.cps := rfl
@[simp] theorem startTxn_bays (s : State) (t : Txn) : (State.startTxn t s).bays = s.bays := rfl
@[simp] theorem startTxn_trays (s : State) (t : Txn) : (State.startTxn t s).trays = s.trays := rfl
@[simp] theorem startTxn_trayAux (s : State) (t : Txn) : (State.startTxn t s).trayAux = s.trayAux := rfl
@[simp] theorem startTxn_ledger (s : State) (t : Txn) : (State.startTxn t s).ledger = s.ledger := rfl
@[simp] theorem startTxn_cooling (s : State) (t : Txn) : (State.startTxn t s).cooling = s.cooling := rfl
@[simp] theorem startTxn_pool (s : State) (t : Txn) : (State.startTxn t s).pool = s.pool := rfl
@[simp] theorem startTxn_rows (s : State) (t : Txn) : (State.startTxn t s).rows = s.rows := rfl
@[simp] theorem startTxn_zoning (s : State) (t : Txn) : (State.startTxn t s).zoning = s.zoning := rfl
@[simp] theorem startTxn_arbiter (s : State) (t : Txn) : (State.startTxn t s).arbiter = s.arbiter := rfl
@[simp] theorem startTxn_alarms (s : State) (t : Txn) : (State.startTxn t s).alarms = s.alarms := rfl
@[simp] theorem startTxn_queues (s : State) (t : Txn) : (State.startTxn t s).queues = s.queues := rfl
@[simp] theorem startTxn_links (s : State) (t : Txn) : (State.startTxn t s).links = s.links := rfl
@[simp] theorem startTxn_counts (s : State) (t : Txn) : (State.startTxn t s).counts = s.counts := rfl
@[simp] theorem startTxn_store (s : State) (t : Txn) : (State.startTxn t s).store = s.store := rfl
@[simp] theorem startTxn_agenda (s : State) (t : Txn) : (State.startTxn t s).agenda = s.agenda := rfl
@[simp] theorem startTxn_pending (s : State) (t : Txn) : (State.startTxn t s).pending = s.pending := rfl

/-! ### kickBus -/
@[simp] theorem kickBus_dev (s : State) : (State.kickBus s).dev = s.dev := by
  unfold State.kickBus; split
  · rfl
  · split <;> rfl
@[simp] theorem kickBus_settings (s : State) : (State.kickBus s).settings = s.settings := by
  unfold State.kickBus; split
  · rfl
  · split <;> rfl
@[simp] theorem kickBus_ctl (s : State) : (State.kickBus s).ctl = s.ctl := by
  unfold State.kickBus; split
  · rfl
  · split <;> rfl
@[simp] theorem kickBus_slots (s : State) : (State.kickBus s).slots = s.slots := by
  unfold State.kickBus; split
  · rfl
  · split <;> rfl
@[simp] theorem kickBus_aux (s : State) : (State.kickBus s).aux = s.aux := by
  unfold State.kickBus; split
  · rfl
  · split <;> rfl
@[simp] theorem kickBus_cps (s : State) : (State.kickBus s).cps = s.cps := by
  unfold State.kickBus; split
  · rfl
  · split <;> rfl
@[simp] theorem kickBus_bays (s : State) : (State.kickBus s).bays = s.bays := by
  unfold State.kickBus; split
  · rfl
  · split <;> rfl
@[simp] theorem kickBus_trays (s : State) : (State.kickBus s).trays = s.trays := by
  unfold State.kickBus; split
  · rfl
  · split <;> rfl
@[simp] theorem kickBus_trayAux (s : State) : (State.kickBus s).trayAux = s.trayAux := by
  unfold State.kickBus; split
  · rfl
  · split <;> rfl
@[simp] theorem kickBus_ledger (s : State) : (State.kickBus s).ledger = s.ledger := by
  unfold State.kickBus; split
  · rfl
  · split <;> rfl
@[simp] theorem kickBus_cooling (s : State) : (State.kickBus s).cooling = s.cooling := by
  unfold State.kickBus; split
  · rfl
  · split <;> rfl
@[simp] theorem kickBus_pool (s : State) : (State.kickBus s).pool = s.pool := by
  unfold State.kickBus; split
  · rfl
  · split <;> rfl
@[simp] theorem kickBus_rows (s : State) : (State.kickBus s).rows = s.rows := by
  unfold State.kickBus; split
  · rfl
  · split <;> rfl
@[simp] theorem kickBus_zoning (s : State) : (State.kickBus s).zoning = s.zoning := by
  unfold State.kickBus; split
  · rfl
  · split <;> rfl
@[simp] theorem kickBus_arbiter (s : State) : (State.kickBus s).arbiter = s.arbiter := by
  unfold State.kickBus; split
  · rfl
  · split <;> rfl
@[simp] theorem kickBus_alarms (s : State) : (State.kickBus s).alarms = s.alarms := by
  unfold State.kickBus; split
  · rfl
  · split <;> rfl
@[simp] theorem kickBus_queues (s : State) : (State.kickBus s).queues = s.queues := by
  unfold State.kickBus; split
  · rfl
  · split <;> rfl
@[simp] theorem kickBus_links (s : State) : (State.kickBus s).links = s.links := by
  unfold State.kickBus; split
  · rfl
  · split <;> rfl
@[simp] theorem kickBus_counts (s : State) : (State.kickBus s).counts = s.counts := by
  unfold State.kickBus; split
  · rfl
  · split <;> rfl
@[simp] theorem kickBus_store (s : State) : (State.kickBus s).store = s.store := by
  unfold State.kickBus; split
  · rfl
  · split <;> rfl
@[simp] theorem kickBus_agenda (s : State) : (State.kickBus s).agenda = s.agenda := by
  unfold State.kickBus; split
  · rfl
  · split <;> rfl
@[simp] theorem kickBus_pending (s : State) : (State.kickBus s).pending = s.pending := by
  unfold State.kickBus; split
  · rfl
  · split <;> rfl

/-! ### enqueue -/
@[simp] theorem enqueue_dev (s : State) (t : Txn) : (State.enqueue t s).dev = s.dev := by
  simp [State.enqueue]
@[simp] theorem enqueue_settings (s : State) (t : Txn) : (State.enqueue t s).settings = s.settings := by
  simp [State.enqueue]
@[simp] theorem enqueue_ctl (s : State) (t : Txn) : (State.enqueue t s).ctl = s.ctl := by
  simp [State.enqueue]
@[simp] theorem enqueue_slots (s : State) (t : Txn) : (State.enqueue t s).slots = s.slots := by
  simp [State.enqueue]
@[simp] theorem enqueue_aux (s : State) (t : Txn) : (State.enqueue t s).aux = s.aux := by
  simp [State.enqueue]
@[simp] theorem enqueue_cps (s : State) (t : Txn) : (State.enqueue t s).cps = s.cps := by
  simp [State.enqueue]
@[simp] theorem enqueue_bays (s : State) (t : Txn) : (State.enqueue t s).bays = s.bays := by
  simp [State.enqueue]
@[simp] theorem enqueue_trays (s : State) (t : Txn) : (State.enqueue t s).trays = s.trays := by
  simp [State.enqueue]
@[simp] theorem enqueue_trayAux (s : State) (t : Txn) : (State.enqueue t s).trayAux = s.trayAux := by
  simp [State.enqueue]
@[simp] theorem enqueue_ledger (s : State) (t : Txn) : (State.enqueue t s).ledger = s.ledger := by
  simp [State.enqueue]
@[simp] theorem enqueue_cooling (s : State) (t : Txn) : (State.enqueue t s).cooling = s.cooling := by
  simp [State.enqueue]
@[simp] theorem enqueue_pool (s : State) (t : Txn) : (State.enqueue t s).pool = s.pool := by
  simp [State.enqueue]
@[simp] theorem enqueue_rows (s : State) (t : Txn) : (State.enqueue t s).rows = s.rows := by
  simp [State.enqueue]
@[simp] theorem enqueue_zoning (s : State) (t : Txn) : (State.enqueue t s).zoning = s.zoning := by
  simp [State.enqueue]
@[simp] theorem enqueue_arbiter (s : State) (t : Txn) : (State.enqueue t s).arbiter = s.arbiter := by
  simp [State.enqueue]
@[simp] theorem enqueue_alarms (s : State) (t : Txn) : (State.enqueue t s).alarms = s.alarms := by
  simp [State.enqueue]
@[simp] theorem enqueue_queues (s : State) (t : Txn) : (State.enqueue t s).queues = s.queues := by
  simp [State.enqueue]
@[simp] theorem enqueue_links (s : State) (t : Txn) : (State.enqueue t s).links = s.links := by
  simp [State.enqueue]
@[simp] theorem enqueue_counts (s : State) (t : Txn) : (State.enqueue t s).counts = s.counts := by
  simp [State.enqueue]
@[simp] theorem enqueue_store (s : State) (t : Txn) : (State.enqueue t s).store = s.store := by
  simp [State.enqueue]
@[simp] theorem enqueue_agenda (s : State) (t : Txn) : (State.enqueue t s).agenda = s.agenda := by
  simp [State.enqueue]
@[simp] theorem enqueue_pending (s : State) (t : Txn) : (State.enqueue t s).pending = s.pending := by
  simp [State.enqueue]

/-! ### withdraw -/
@[simp] theorem withdraw_dev (s : State) (f : Txn → Bool) : (State.withdraw f s).dev = s.dev := rfl
@[simp] theorem withdraw_settings (s : State) (f : Txn → Bool) : (State.withdraw f s).settings = s.settings := rfl
@[simp] theorem withdraw_ctl (s : State) (f : Txn → Bool) : (State.withdraw f s).ctl = s.ctl := rfl
@[simp] theorem withdraw_slots (s : State) (f : Txn → Bool) : (State.withdraw f s).slots = s.slots := rfl
@[simp] theorem withdraw_aux (s : State) (f : Txn → Bool) : (State.withdraw f s).aux = s.aux := rfl
@[simp] theorem withdraw_cps (s : State) (f : Txn → Bool) : (State.withdraw f s).cps = s.cps := rfl
@[simp] theorem withdraw_bays (s : State) (f : Txn → Bool) : (State.withdraw f s).bays = s.bays := rfl
@[simp] theorem withdraw_trays (s : State) (f : Txn → Bool) : (State.withdraw f s).trays = s.trays := rfl
@[simp] theorem withdraw_trayAux (s : State) (f : Txn → Bool) : (State.withdraw f s).trayAux = s.trayAux := rfl
@[simp] theorem withdraw_ledger (s : State) (f : Txn → Bool) : (State.withdraw f s).ledger = s.ledger := rfl
@[simp] theorem withdraw_cooling (s : State) (f : Txn → Bool) : (State.withdraw f s).cooling = s.cooling := rfl
@[simp] theorem withdraw_pool (s : State) (f : Txn → Bool) : (State.withdraw f s).pool = s.pool := rfl
@[simp] theorem withdraw_rows (s : State) (f : Txn → Bool) : (State.withdraw f s).rows = s.rows := rfl
@[simp] theorem withdraw_zoning (s : State) (f : Txn → Bool) : (State.withdraw f s).zoning = s.zoning := rfl
@[simp] theorem withdraw_arbiter (s : State) (f : Txn → Bool) : (State.withdraw f s).arbiter = s.arbiter := rfl
@[simp] theorem withdraw_alarms (s : State) (f : Txn → Bool) : (State.withdraw f s).alarms = s.alarms := rfl
@[simp] theorem withdraw_queues (s : State) (f : Txn → Bool) : (State.withdraw f s).queues = s.queues := rfl
@[simp] theorem withdraw_links (s : State) (f : Txn → Bool) : (State.withdraw f s).links = s.links := rfl
@[simp] theorem withdraw_counts (s : State) (f : Txn → Bool) : (State.withdraw f s).counts = s.counts := rfl
@[simp] theorem withdraw_store (s : State) (f : Txn → Bool) : (State.withdraw f s).store = s.store := rfl
@[simp] theorem withdraw_agenda (s : State) (f : Txn → Bool) : (State.withdraw f s).agenda = s.agenda := rfl
@[simp] theorem withdraw_pending (s : State) (f : Txn → Bool) : (State.withdraw f s).pending = s.pending := rfl

/-! ### freeBus -/
@[simp] theorem freeBus_dev (s : State) : (State.freeBus s).dev = s.dev := by
  simp [State.freeBus]
@[simp] theorem freeBus_settings (s : State) : (State.freeBus s).settings = s.settings := by
  simp [State.freeBus]
@[simp] theorem freeBus_ctl (s : State) : (State.freeBus s).ctl = s.ctl := by
  simp [State.freeBus]
@[simp] theorem freeBus_slots (s : State) : (State.freeBus s).slots = s.slots := by
  simp [State.freeBus]
@[simp] theorem freeBus_aux (s : State) : (State.freeBus s).aux = s.aux := by
  simp [State.freeBus]
@[simp] theorem freeBus_cps (s : State) : (State.freeBus s).cps = s.cps := by
  simp [State.freeBus]
@[simp] theorem freeBus_bays (s : State) : (State.freeBus s).bays = s.bays := by
  simp [State.freeBus]
@[simp] theorem freeBus_trays (s : State) : (State.freeBus s).trays = s.trays := by
  simp [State.freeBus]
@[simp] theorem freeBus_trayAux (s : State) : (State.freeBus s).trayAux = s.trayAux := by
  simp [State.freeBus]
@[simp] theorem freeBus_ledger (s : State) : (State.freeBus s).ledger = s.ledger := by
  simp [State.freeBus]
@[simp] theorem freeBus_cooling (s : State) : (State.freeBus s).cooling = s.cooling := by
  simp [State.freeBus]
@[simp] theorem freeBus_pool (s : State) : (State.freeBus s).pool = s.pool := by
  simp [State.freeBus]
@[simp] theorem freeBus_rows (s : State) : (State.freeBus s).rows = s.rows := by
  simp [State.freeBus]
@[simp] theorem freeBus_zoning (s : State) : (State.freeBus s).zoning = s.zoning := by
  simp [State.freeBus]
@[simp] theorem freeBus_arbiter (s : State) : (State.freeBus s).arbiter = s.arbiter := by
  simp [State.freeBus]
@[simp] theorem freeBus_alarms (s : State) : (State.freeBus s).alarms = s.alarms := by
  simp [State.freeBus]
@[simp] theorem freeBus_queues (s : State) : (State.freeBus s).queues = s.queues := by
  simp [State.freeBus]
@[simp] theorem freeBus_links (s : State) : (State.freeBus s).links = s.links := by
  simp [State.freeBus]
@[simp] theorem freeBus_counts (s : State) : (State.freeBus s).counts = s.counts := by
  simp [State.freeBus]
@[simp] theorem freeBus_store (s : State) : (State.freeBus s).store = s.store := by
  simp [State.freeBus]
@[simp] theorem freeBus_agenda (s : State) : (State.freeBus s).agenda = s.agenda := by
  simp [State.freeBus]
@[simp] theorem freeBus_pending (s : State) : (State.freeBus s).pending = s.pending := by
  simp [State.freeBus]

/-! ### deriveReadouts -/
@[simp] theorem deriveReadouts_dev (s : State) : (State.deriveReadouts s).dev = s.dev := by
  unfold State.deriveReadouts; dsimp only; split <;> rfl
@[simp] theorem deriveReadouts_settings (s : State) : (State.deriveReadouts s).settings = s.settings := by
  unfold State.deriveReadouts; dsimp only; split <;> rfl
@[simp] theorem deriveReadouts_ctl (s : State) : (State.deriveReadouts s).ctl = s.ctl := by
  unfold State.deriveReadouts; dsimp only; split <;> rfl
@[simp] theorem deriveReadouts_slots (s : State) : (State.deriveReadouts s).slots = s.slots := by
  unfold State.deriveReadouts; dsimp only; split <;> rfl
@[simp] theorem deriveReadouts_aux (s : State) : (State.deriveReadouts s).aux = s.aux := by
  unfold State.deriveReadouts; dsimp only; split <;> rfl
@[simp] theorem deriveReadouts_cps (s : State) : (State.deriveReadouts s).cps = s.cps := by
  unfold State.deriveReadouts; dsimp only; split <;> rfl
@[simp] theorem deriveReadouts_bays (s : State) : (State.deriveReadouts s).bays = s.bays := by
  unfold State.deriveReadouts; dsimp only; split <;> rfl
@[simp] theorem deriveReadouts_trays (s : State) : (State.deriveReadouts s).trays = s.trays := by
  unfold State.deriveReadouts; dsimp only; split <;> rfl
@[simp] theorem deriveReadouts_trayAux (s : State) : (State.deriveReadouts s).trayAux = s.trayAux := by
  unfold State.deriveReadouts; dsimp only; split <;> rfl
@[simp] theorem deriveReadouts_bus (s : State) : (State.deriveReadouts s).bus = s.bus := by
  unfold State.deriveReadouts; dsimp only; split <;> rfl
@[simp] theorem deriveReadouts_cooling (s : State) : (State.deriveReadouts s).cooling = s.cooling := by
  unfold State.deriveReadouts; dsimp only; split <;> rfl
@[simp] theorem deriveReadouts_pool (s : State) : (State.deriveReadouts s).pool = s.pool := by
  unfold State.deriveReadouts; dsimp only; split <;> rfl
@[simp] theorem deriveReadouts_rows (s : State) : (State.deriveReadouts s).rows = s.rows := by
  unfold State.deriveReadouts; dsimp only; split <;> rfl
@[simp] theorem deriveReadouts_zoning (s : State) : (State.deriveReadouts s).zoning = s.zoning := by
  unfold State.deriveReadouts; dsimp only; split <;> rfl
@[simp] theorem deriveReadouts_arbiter (s : State) : (State.deriveReadouts s).arbiter = s.arbiter := by
  unfold State.deriveReadouts; dsimp only; split <;> rfl
@[simp] theorem deriveReadouts_alarms (s : State) : (State.deriveReadouts s).alarms = s.alarms := by
  unfold State.deriveReadouts; dsimp only; split <;> rfl
@[simp] theorem deriveReadouts_queues (s : State) : (State.deriveReadouts s).queues = s.queues := by
  unfold State.deriveReadouts; dsimp only; split <;> rfl
@[simp] theorem deriveReadouts_links (s : State) : (State.deriveReadouts s).links = s.links := by
  unfold State.deriveReadouts; dsimp only; split <;> rfl
@[simp] theorem deriveReadouts_store (s : State) : (State.deriveReadouts s).store = s.store := by
  unfold State.deriveReadouts; dsimp only; split <;> rfl
@[simp] theorem deriveReadouts_agenda (s : State) : (State.deriveReadouts s).agenda = s.agenda := by
  unfold State.deriveReadouts; dsimp only; split <;> rfl
@[simp] theorem deriveReadouts_pending (s : State) : (State.deriveReadouts s).pending = s.pending := by
  unfold State.deriveReadouts; dsimp only; split <;> rfl

/-! ### deriveLow -/
@[simp] theorem deriveLow_dev (s : State) : (State.deriveLow s).dev = s.dev := by
  unfold State.deriveLow; dsimp only; split <;> rfl
@[simp] theorem deriveLow_settings (s : State) : (State.deriveLow s).settings = s.settings := by
  unfold State.deriveLow; dsimp only; split <;> rfl
@[simp] theorem deriveLow_ctl (s : State) : (State.deriveLow s).ctl = s.ctl := by
  unfold State.deriveLow; dsimp only; split <;> rfl
@[simp] theorem deriveLow_slots (s : State) : (State.deriveLow s).slots = s.slots := by
  unfold State.deriveLow; dsimp only; split <;> rfl
@[simp] theorem deriveLow_aux (s : State) : (State.deriveLow s).aux = s.aux := by
  unfold State.deriveLow; dsimp only; split <;> rfl
@[simp] theorem deriveLow_cps (s : State) : (State.deriveLow s).cps = s.cps := by
  unfold State.deriveLow; dsimp only; split <;> rfl
@[simp] theorem deriveLow_bays (s : State) : (State.deriveLow s).bays = s.bays := by
  unfold State.deriveLow; dsimp only; split <;> rfl
@[simp] theorem deriveLow_trays (s : State) : (State.deriveLow s).trays = s.trays := by
  unfold State.deriveLow; dsimp only; split <;> rfl
@[simp] theorem deriveLow_trayAux (s : State) : (State.deriveLow s).trayAux = s.trayAux := by
  unfold State.deriveLow; dsimp only; split <;> rfl
@[simp] theorem deriveLow_bus (s : State) : (State.deriveLow s).bus = s.bus := by
  unfold State.deriveLow; dsimp only; split <;> rfl
@[simp] theorem deriveLow_cooling (s : State) : (State.deriveLow s).cooling = s.cooling := by
  unfold State.deriveLow; dsimp only; split <;> rfl
@[simp] theorem deriveLow_pool (s : State) : (State.deriveLow s).pool = s.pool := by
  unfold State.deriveLow; dsimp only; split <;> rfl
@[simp] theorem deriveLow_rows (s : State) : (State.deriveLow s).rows = s.rows := by
  unfold State.deriveLow; dsimp only; split <;> rfl
@[simp] theorem deriveLow_zoning (s : State) : (State.deriveLow s).zoning = s.zoning := by
  unfold State.deriveLow; dsimp only; split <;> rfl
@[simp] theorem deriveLow_arbiter (s : State) : (State.deriveLow s).arbiter = s.arbiter := by
  unfold State.deriveLow; dsimp only; split <;> rfl
@[simp] theorem deriveLow_alarms (s : State) : (State.deriveLow s).alarms = s.alarms := by
  unfold State.deriveLow; dsimp only; split <;> rfl
@[simp] theorem deriveLow_links (s : State) : (State.deriveLow s).links = s.links := by
  unfold State.deriveLow; dsimp only; split <;> rfl
@[simp] theorem deriveLow_counts (s : State) : (State.deriveLow s).counts = s.counts := by
  unfold State.deriveLow; dsimp only; split <;> rfl
@[simp] theorem deriveLow_store (s : State) : (State.deriveLow s).store = s.store := by
  unfold State.deriveLow; dsimp only; split <;> rfl
@[simp] theorem deriveLow_agenda (s : State) : (State.deriveLow s).agenda = s.agenda := by
  unfold State.deriveLow; dsimp only; split <;> rfl
@[simp] theorem deriveLow_pending (s : State) : (State.deriveLow s).pending = s.pending := by
  unfold State.deriveLow; dsimp only; split <;> rfl

/-! ### endPass -/
@[simp] theorem endPass_dev (s : State) : (State.endPass s).dev = s.dev := by
  unfold State.endPass; split <;> rfl
@[simp] theorem endPass_settings (s : State) : (State.endPass s).settings = s.settings := by
  unfold State.endPass; split <;> rfl
@[simp] theorem endPass_ctl (s : State) : (State.endPass s).ctl = s.ctl := by
  unfold State.endPass; split <;> rfl
@[simp] theorem endPass_slots (s : State) : (State.endPass s).slots = s.slots := by
  unfold State.endPass; split <;> rfl
@[simp] theorem endPass_aux (s : State) : (State.endPass s).aux = s.aux := by
  unfold State.endPass; split <;> rfl
@[simp] theorem endPass_cps (s : State) : (State.endPass s).cps = s.cps := by
  unfold State.endPass; split <;> rfl
@[simp] theorem endPass_bays (s : State) : (State.endPass s).bays = s.bays := by
  unfold State.endPass; split <;> rfl
@[simp] theorem endPass_trays (s : State) : (State.endPass s).trays = s.trays := by
  unfold State.endPass; split <;> rfl
@[simp] theorem endPass_trayAux (s : State) : (State.endPass s).trayAux = s.trayAux := by
  unfold State.endPass; split <;> rfl
@[simp] theorem endPass_bus (s : State) : (State.endPass s).bus = s.bus := by
  unfold State.endPass; split <;> rfl
@[simp] theorem endPass_cooling (s : State) : (State.endPass s).cooling = s.cooling := by
  unfold State.endPass; split <;> rfl
@[simp] theorem endPass_pool (s : State) : (State.endPass s).pool = s.pool := by
  unfold State.endPass; split <;> rfl
@[simp] theorem endPass_rows (s : State) : (State.endPass s).rows = s.rows := by
  unfold State.endPass; split <;> rfl
@[simp] theorem endPass_zoning (s : State) : (State.endPass s).zoning = s.zoning := by
  unfold State.endPass; split <;> rfl
@[simp] theorem endPass_arbiter (s : State) : (State.endPass s).arbiter = s.arbiter := by
  unfold State.endPass; split <;> rfl
@[simp] theorem endPass_alarms (s : State) : (State.endPass s).alarms = s.alarms := by
  unfold State.endPass; split <;> rfl
@[simp] theorem endPass_queues (s : State) : (State.endPass s).queues = s.queues := by
  unfold State.endPass; split <;> rfl
@[simp] theorem endPass_links (s : State) : (State.endPass s).links = s.links := by
  unfold State.endPass; split <;> rfl
@[simp] theorem endPass_counts (s : State) : (State.endPass s).counts = s.counts := by
  unfold State.endPass; split <;> rfl
@[simp] theorem endPass_store (s : State) : (State.endPass s).store = s.store := by
  unfold State.endPass; split <;> rfl
@[simp] theorem endPass_agenda (s : State) : (State.endPass s).agenda = s.agenda := by
  unfold State.endPass; split <;> rfl
@[simp] theorem endPass_pending (s : State) : (State.endPass s).pending = s.pending := by
  unfold State.endPass; split <;> rfl

/-! ### evalDeficit -/
@[simp] theorem evalDeficit_dev (s : State) : (State.evalDeficit s).dev = s.dev := by
  unfold State.evalDeficit; dsimp only; split <;> simp
@[simp] theorem evalDeficit_settings (s : State) : (State.evalDeficit s).settings = s.settings := by
  unfold State.evalDeficit; dsimp only; split <;> simp
@[simp] theorem evalDeficit_ctl (s : State) : (State.evalDeficit s).ctl = s.ctl := by
  unfold State.evalDeficit; dsimp only; split <;> simp
@[simp] theorem evalDeficit_slots (s : State) : (State.evalDeficit s).slots = s.slots := by
  unfold State.evalDeficit; dsimp only; split <;> simp
@[simp] theorem evalDeficit_aux (s : State) : (State.evalDeficit s).aux = s.aux := by
  unfold State.evalDeficit; dsimp only; split <;> simp
@[simp] theorem evalDeficit_cps (s : State) : (State.evalDeficit s).cps = s.cps := by
  unfold State.evalDeficit; dsimp only; split <;> simp
@[simp] theorem evalDeficit_bays (s : State) : (State.evalDeficit s).bays = s.bays := by
  unfold State.evalDeficit; dsimp only; split <;> simp
@[simp] theorem evalDeficit_trays (s : State) : (State.evalDeficit s).trays = s.trays := by
  unfold State.evalDeficit; dsimp only; split <;> simp
@[simp] theorem evalDeficit_trayAux (s : State) : (State.evalDeficit s).trayAux = s.trayAux := by
  unfold State.evalDeficit; dsimp only; split <;> simp
@[simp] theorem evalDeficit_bus (s : State) : (State.evalDeficit s).bus = s.bus := by
  unfold State.evalDeficit; dsimp only; split <;> simp
@[simp] theorem evalDeficit_ledger (s : State) : (State.evalDeficit s).ledger = s.ledger := by
  unfold State.evalDeficit; dsimp only; split <;> simp
@[simp] theorem evalDeficit_cooling (s : State) : (State.evalDeficit s).cooling = s.cooling := by
  unfold State.evalDeficit; dsimp only; split <;> simp
@[simp] theorem evalDeficit_rows (s : State) : (State.evalDeficit s).rows = s.rows := by
  unfold State.evalDeficit; dsimp only; split <;> simp
@[simp] theorem evalDeficit_zoning (s : State) : (State.evalDeficit s).zoning = s.zoning := by
  unfold State.evalDeficit; dsimp only; split <;> simp
@[simp] theorem evalDeficit_arbiter (s : State) : (State.evalDeficit s).arbiter = s.arbiter := by
  unfold State.evalDeficit; dsimp only; split <;> simp
@[simp] theorem evalDeficit_links (s : State) : (State.evalDeficit s).links = s.links := by
  unfold State.evalDeficit; dsimp only; split <;> simp
@[simp] theorem evalDeficit_store (s : State) : (State.evalDeficit s).store = s.store := by
  unfold State.evalDeficit; dsimp only; split <;> simp
@[simp] theorem evalDeficit_agenda (s : State) : (State.evalDeficit s).agenda = s.agenda := by
  unfold State.evalDeficit; dsimp only; split <;> simp
@[simp] theorem evalDeficit_pending (s : State) : (State.evalDeficit s).pending = s.pending := by
  unfold State.evalDeficit; dsimp only; split <;> simp

/-! ### setWaiting -/
@[simp] theorem setWaiting_dev (s : State) (n : Nat) : (State.setWaiting n s).dev = s.dev := by
  unfold State.setWaiting; dsimp only; split <;> simp
@[simp] theorem setWaiting_settings (s : State) (n : Nat) : (State.setWaiting n s).settings = s.settings := by
  unfold State.setWaiting; dsimp only; split <;> simp
@[simp] theorem setWaiting_ctl (s : State) (n : Nat) : (State.setWaiting n s).ctl = s.ctl := by
  unfold State.setWaiting; dsimp only; split <;> simp
@[simp] theorem setWaiting_slots (s : State) (n : Nat) : (State.setWaiting n s).slots = s.slots := by
  unfold State.setWaiting; dsimp only; split <;> simp
@[simp] theorem setWaiting_aux (s : State) (n : Nat) : (State.setWaiting n s).aux = s.aux := by
  unfold State.setWaiting; dsimp only; split <;> simp
@[simp] theorem setWaiting_cps (s : State) (n : Nat) : (State.setWaiting n s).cps = s.cps := by
  unfold State.setWaiting; dsimp only; split <;> simp
@[simp] theorem setWaiting_bays (s : State) (n : Nat) : (State.setWaiting n s).bays = s.bays := by
  unfold State.setWaiting; dsimp only; split <;> simp
@[simp] theorem setWaiting_trays (s : State) (n : Nat) : (State.setWaiting n s).trays = s.trays := by
  unfold State.setWaiting; dsimp only; split <;> simp
@[simp] theorem setWaiting_trayAux (s : State) (n : Nat) : (State.setWaiting n s).trayAux = s.trayAux := by
  unfold State.setWaiting; dsimp only; split <;> simp
@[simp] theorem setWaiting_bus (s : State) (n : Nat) : (State.setWaiting n s).bus = s.bus := by
  unfold State.setWaiting; dsimp only; split <;> simp
@[simp] theorem setWaiting_ledger (s : State) (n : Nat) : (State.setWaiting n s).ledger = s.ledger := by
  unfold State.setWaiting; dsimp only; split <;> simp
@[simp] theorem setWaiting_cooling (s : State) (n : Nat) : (State.setWaiting n s).cooling = s.cooling := by
  unfold State.setWaiting; dsimp only; split <;> simp
@[simp] theorem setWaiting_rows (s : State) (n : Nat) : (State.setWaiting n s).rows = s.rows := by
  unfold State.setWaiting; dsimp only; split <;> simp
@[simp] theorem setWaiting_zoning (s : State) (n : Nat) : (State.setWaiting n s).zoning = s.zoning := by
  unfold State.setWaiting; dsimp only; split <;> simp
@[simp] theorem setWaiting_arbiter (s : State) (n : Nat) : (State.setWaiting n s).arbiter = s.arbiter := by
  unfold State.setWaiting; dsimp only; split <;> simp
@[simp] theorem setWaiting_links (s : State) (n : Nat) : (State.setWaiting n s).links = s.links := by
  unfold State.setWaiting; dsimp only; split <;> simp
@[simp] theorem setWaiting_store (s : State) (n : Nat) : (State.setWaiting n s).store = s.store := by
  unfold State.setWaiting; dsimp only; split <;> simp
@[simp] theorem setWaiting_agenda (s : State) (n : Nat) : (State.setWaiting n s).agenda = s.agenda := by
  unfold State.setWaiting; dsimp only; split <;> simp
@[simp] theorem setWaiting_pending (s : State) (n : Nat) : (State.setWaiting n s).pending = s.pending := by
  unfold State.setWaiting; dsimp only; split <;> simp

/-! ### writeRow -/
@[simp] theorem writeRow_dev (s : State) (p : Port) (r : Row) : (State.writeRow p r s).dev = s.dev := by
  unfold State.writeRow; dsimp only; repeat' split
  all_goals simp
@[simp] theorem writeRow_settings (s : State) (p : Port) (r : Row) : (State.writeRow p r s).settings = s.settings := by
  unfold State.writeRow; dsimp only; repeat' split
  all_goals simp
@[simp] theorem writeRow_ctl (s : State) (p : Port) (r : Row) : (State.writeRow p r s).ctl = s.ctl := by
  unfold State.writeRow; dsimp only; repeat' split
  all_goals simp
@[simp] theorem writeRow_slots (s : State) (p : Port) (r : Row) : (State.writeRow p r s).slots = s.slots := by
  unfold State.writeRow; dsimp only; repeat' split
  all_goals simp
@[simp] theorem writeRow_aux (s : State) (p : Port) (r : Row) : (State.writeRow p r s).aux = s.aux := by
  unfold State.writeRow; dsimp only; repeat' split
  all_goals simp
@[simp] theorem writeRow_cps (s : State) (p : Port) (r : Row) : (State.writeRow p r s).cps = s.cps := by
  unfold State.writeRow; dsimp only; repeat' split
  all_goals simp
@[simp] theorem writeRow_bays (s : State) (p : Port) (r : Row) : (State.writeRow p r s).bays = s.bays := by
  unfold State.writeRow; dsimp only; repeat' split
  all_goals simp
@[simp] theorem writeRow_trays (s : State) (p : Port) (r : Row) : (State.writeRow p r s).trays = s.trays := by
  unfold State.writeRow; dsimp only; repeat' split
  all_goals simp
@[simp] theorem writeRow_trayAux (s : State) (p : Port) (r : Row) : (State.writeRow p r s).trayAux = s.trayAux := by
  unfold State.writeRow; dsimp only; repeat' split
  all_goals simp
@[simp] theorem writeRow_bus (s : State) (p : Port) (r : Row) : (State.writeRow p r s).bus = s.bus := by
  unfold State.writeRow; dsimp only; repeat' split
  all_goals simp
@[simp] theorem writeRow_ledger (s : State) (p : Port) (r : Row) : (State.writeRow p r s).ledger = s.ledger := by
  unfold State.writeRow; dsimp only; repeat' split
  all_goals simp
@[simp] theorem writeRow_cooling (s : State) (p : Port) (r : Row) : (State.writeRow p r s).cooling = s.cooling := by
  unfold State.writeRow; dsimp only; repeat' split
  all_goals simp
@[simp] theorem writeRow_rows (s : State) (p : Port) (r : Row) : (State.writeRow p r s).rows = put s.rows p.slot (put (look s.rows p.slot) p.idx r) := by
  unfold State.writeRow; dsimp only; repeat' split
  all_goals simp
@[simp] theorem writeRow_zoning (s : State) (p : Port) (r : Row) : (State.writeRow p r s).zoning = s.zoning := by
  unfold State.writeRow; dsimp only; repeat' split
  all_goals simp
@[simp] theorem writeRow_arbiter (s : State) (p : Port) (r : Row) : (State.writeRow p r s).arbiter = s.arbiter := by
  unfold State.writeRow; dsimp only; repeat' split
  all_goals simp
@[simp] theorem writeRow_links (s : State) (p : Port) (r : Row) : (State.writeRow p r s).links = s.links := by
  unfold State.writeRow; dsimp only; repeat' split
  all_goals simp
@[simp] theorem writeRow_store (s : State) (p : Port) (r : Row) : (State.writeRow p r s).store = s.store := by
  unfold State.writeRow; dsimp only; repeat' split
  all_goals simp
@[simp] theorem writeRow_agenda (s : State) (p : Port) (r : Row) : (State.writeRow p r s).agenda = s.agenda := by
  unfold State.writeRow; dsimp only; repeat' split
  all_goals simp
@[simp] theorem writeRow_pending (s : State) (p : Port) (r : Row) : (State.writeRow p r s).pending = s.pending := by
  unfold State.writeRow; dsimp only; repeat' split
  all_goals simp

end Sys2Proof.Machine
end

