-- ==== Sys2Proof/Laws/Lasting.lean ====
section
/-! SUPPORT. What notices and orders between blocks leave alone: every operation they are made of keeps
`State.lasting`, and so does the end of a command. -/

namespace Sys2Proof.Machine

/-! ## Tables and reports -/

@[simp] theorem lasting_bump (s : State) (t : Table) : (State.bump t s).lasting = s.lasting := rfl

theorem lasting_setSlot (s : State) (i : Slot) (e : SlotEntry)
    (h : e.lasting = (s.slotAt i).lasting) : (s.setSlot i e).lasting = s.lasting := by
  simp [State.lasting, map_put_same _ _ _ _ h]

theorem lasting_setAux (s : State) (i : Slot) (a : SlotAux) (h : a.lasting = (s.auxAt i).lasting) :
    (s.setAux i a).lasting = s.lasting := by
  simp [State.lasting, map_put_same _ _ _ _ h]

@[simp] theorem lasting_setZone (s : State) (z : AirZone) (c : ZoneCtl) :
    (s.setZone z c).lasting = s.lasting := by
  simp [State.lasting]

theorem lasting_setTray (s : State) (t : Tray) (e : TrayEntry) (h : e.lasting = (s.trayAt t).lasting) :
    (s.setTray t e).lasting = s.lasting := by
  simp [State.lasting, map_put_same _ _ _ _ h]

@[simp] theorem lasting_setDuty (s : State) (t : Tray) (d : Nat) : (s.setDuty t d).lasting = s.lasting :=
  lasting_setTray _ _ _ rfl

theorem offer_lasting (q : EventQueue) (k : EventKind) (x a b : Half) (e : Word) :
    (q.offer k x a b e).lasting = q.lasting := by
  unfold EventQueue.offer EventQueue.place EventQueue.lasting
  dsimp only
  repeat' split
  all_goals rfl

@[simp] theorem lasting_report (s : State) (k : EventKind) (x a b : Half) :
    (s.report k x a b).lasting = s.lasting := by
  have h : (s.queues.map fun q => q.offer k x a b s.arbiter.epoch).map EventQueue.lasting =
      s.queues.map EventQueue.lasting := by
    apply look_ext
    intro i
    simp [offer_lasting]
  simp only [State.lasting, State.report, h]

@[simp] theorem lasting_hand (s : State) (t : Task) : (s.hand t).lasting = s.lasting := by
  simp [State.lasting]

@[simp] theorem lasting_applyCondition (s : State) (n : Fin 57) (v : Bool) :
    (s.applyCondition n v).lasting = s.lasting := by
  unfold State.applyCondition
  dsimp only
  split
  · rfl
  · simp only [State.movePoint, lasting_report, lasting_bump]; rfl

@[simp] theorem lasting_condition (s : State) (n : Fin 57) (v : Bool) :
    (s.condition n v).lasting = s.lasting := by
  unfold State.condition
  split
  · rfl
  · simp

@[simp] theorem lasting_ledger (s : State) (l : Ledger) :
    ({ s with ledger := l } : State).lasting = s.lasting := rfl

/-! ## Scheduler -/

@[simp] theorem lasting_kickBus (s : State) : s.kickBus.lasting = s.lasting := by simp [State.lasting]
@[simp] theorem lasting_enqueue (s : State) (t : Txn) : (s.enqueue t).lasting = s.lasting := by
  simp [State.lasting]
@[simp] theorem lasting_withdraw (s : State) (f : Txn → Bool) : (s.withdraw f).lasting = s.lasting := by
  simp [State.lasting]
@[simp] theorem lasting_withdrawPower (s : State) (i : Slot) :
    (s.withdrawPower i).lasting = s.lasting := lasting_withdraw s _
@[simp] theorem lasting_freeBus (s : State) : s.freeBus.lasting = s.lasting := by simp [State.lasting]

/-! ## Ledger -/

@[simp] theorem lasting_ledgerEvent (s : State) (a x b : Half) :
    (s.ledgerEvent a x b).lasting = s.lasting := lasting_report s _ _ _ _

@[simp] theorem lasting_deriveReadouts (s : State) : s.deriveReadouts.lasting = s.lasting := by
  simp [State.lasting]
@[simp] theorem lasting_endPass (s : State) : s.endPass.lasting = s.lasting := by simp [State.lasting]

@[simp] theorem lasting_deriveLow (s : State) : s.deriveLow.lasting = s.lasting := by
  unfold State.deriveLow
  dsimp only
  split <;> simp

@[simp] theorem lasting_orderShed (s : State) : s.orderShed.lasting = s.lasting := by
  unfold State.orderShed
  split <;> simp

@[simp] theorem lasting_startShedding (s : State) (c : Half) :
    (s.startShedding c).lasting = s.lasting := by simp [State.startShedding]

@[simp] theorem lasting_openOvercommit (s : State) : s.openOvercommit.lasting = s.lasting := by
  unfold State.openOvercommit
  dsimp only
  repeat' split
  all_goals
    simp only [lasting_startShedding, lasting_ledger, lasting_endPass, lasting_condition,
      lasting_ledgerEvent]

@[simp] theorem lasting_closeOvercommit (s : State) : s.closeOvercommit.lasting = s.lasting := by
  unfold State.closeOvercommit
  dsimp only
  split <;> simp

@[simp] theorem lasting_overcommitRules (s : State) : s.overcommitRules.lasting = s.lasting := by
  unfold State.overcommitRules
  repeat' split
  all_goals simp

@[simp] theorem lasting_startPass (s : State) : s.startPass.lasting = s.lasting := by
  simp [State.startPass]

@[simp] theorem lasting_passRule (s : State) : s.passRule.lasting = s.lasting := by
  unfold State.passRule
  repeat' split
  all_goals simp

@[simp] theorem lasting_ledgerSteps (s : State) (h : Int) : (s.ledgerSteps h).lasting = s.lasting := by
  unfold State.ledgerSteps
  dsimp only
  split <;> simp

@[simp] theorem lasting_recompute (s : State) : s.recompute.lasting = s.lasting := by
  unfold State.recompute
  split <;> simp

@[simp] theorem lasting_charge (s : State) (i : Slot) : (s.charge i).lasting = s.lasting := rfl

@[simp] theorem lasting_leftPowering (s : State) (i : Slot) : (s.leftPowering i).lasting = s.lasting := by
  unfold State.leftPowering
  repeat' split
  all_goals simp

@[simp] theorem lasting_endPassIfDone (s : State) : s.endPassIfDone.lasting = s.lasting := by
  unfold State.endPassIfDone
  split <;> simp

@[simp] theorem lasting_leaveShed (s : State) (i : Slot) : (s.leaveShed i).lasting = s.lasting := by
  unfold State.leaveShed
  dsimp only
  repeat' split
  all_goals simp

@[simp] theorem lasting_joinShed (s : State) (i : Slot) : (s.joinShed i).lasting = s.lasting := by
  simp [State.joinShed]

@[simp] theorem lasting_takeRemoval (s : State) (i : Slot) : (s.takeRemoval i).lasting = s.lasting := by
  unfold State.takeRemoval
  extract_lets _l t
  split
  · exact lasting_joinShed t i
  · rfl

/-! ## Rows -/

@[simp] theorem lasting_evalDeficit (s : State) : s.evalDeficit.lasting = s.lasting := by
  unfold State.evalDeficit
  dsimp only
  split
  · rfl
  · simp only [lasting_condition]; rfl

@[simp] theorem lasting_setWaiting (s : State) (n : Nat) : (s.setWaiting n).lasting = s.lasting := by
  unfold State.setWaiting
  dsimp only
  split
  · rfl
  · simp only [lasting_evalDeficit]; rfl

theorem lasting_setRow (s : State) (p : Port) (r : Row) (h : r.lasting = (s.rowAt p).lasting) :
    (s.setRow p r).lasting = s.lasting := by
  have h' : (put (look s.rows p.slot) p.idx r).map Row.lasting = (look s.rows p.slot).map Row.lasting :=
    map_put_same _ _ _ _ h
  have h2 : (put s.rows p.slot (put (look s.rows p.slot) p.idx r)).map (fun v => v.map Row.lasting) =
      s.rows.map (fun v => v.map Row.lasting) := map_put_same _ _ _ _ h'
  simp only [State.lasting, setRow_dev, setRow_settings, setRow_ctl, setRow_slots, setRow_aux, setRow_cps,
    setRow_bays, setRow_trays, setRow_trayAux, setRow_pool, setRow_rows, setRow_zoning, setRow_arbiter,
    setRow_queues, setRow_links, setRow_store, setRow_pending, h2]

theorem lasting_writeRow (s : State) (p : Port) (r : Row) (h : r.lasting = (s.rowAt p).lasting) :
    (s.writeRow p r).lasting = s.lasting := by
  unfold State.writeRow
  dsimp only
  repeat' split
  all_goals simp [lasting_setRow, h]

@[simp] theorem lasting_setCond (s : State) (p : Port) (c : RowCond) :
    (s.setCond p c).lasting = s.lasting := lasting_writeRow s p _ rfl

@[simp] theorem lasting_relabel (s : State) (p : Port) : (s.relabel p).lasting = s.lasting := by
  unfold State.relabel
  split <;> simp

@[simp] theorem lasting_portCommand (s : State) (p : Port) (v : Bool) :
    (s.portCommand p v).lasting = s.lasting := by
  unfold State.portCommand
  dsimp only
  split <;> simp

@[simp] theorem lasting_bringUp (s : State) (p : Port) : (s.bringUp p).lasting = s.lasting := by
  simp only [State.bringUp, lasting_portCommand, lasting_setCond, lasting_recompute]
  exact lasting_writeRow _ _ _ rfl

@[simp] theorem lasting_goDown (s : State) (p : Port) (r : DownReason) :
    (s.goDown p r).lasting = s.lasting := by
  simp only [State.goDown, lasting_portCommand, lasting_recompute]
  exact lasting_writeRow _ _ _ rfl

/-- Reading a written row. -/
theorem rowAt_writeRow (s : State) (p q : Port) (r : Row) :
    (s.writeRow p r).rowAt q = if q = p then r else s.rowAt q := by
  obtain ⟨a, i⟩ := p
  obtain ⟨b, j⟩ := q
  simp only [State.rowAt, writeRow_rows, look_put, Port.mk.injEq]
  by_cases h : b = a
  · subst h
    by_cases h2 : j = i <;> simp [h2, look_put]
  · simp [h]

/-- A unit moved on an enabled row. -/
theorem lasting_setUnit (s : State) (p : Port) (u : UnitState) (h : (s.rowAt p).admin = true) :
    (s.setUnit p u).lasting = s.lasting :=
  lasting_writeRow s p _ (by simp [Row.lasting, h])

theorem lasting_askPower (s : State) (p : Port) (b : Bool) (h : (s.rowAt p).admin = true) :
    (s.askPower p b).lasting = s.lasting := by
  unfold State.askPower
  dsimp only
  repeat' split
  all_goals simp [lasting_setUnit, h]

theorem firstFail_admin {s : State} {p : Port} (h : s.firstFail p = none) : (s.rowAt p).admin = true := by
  unfold State.firstFail at h
  split at h
  · cases h
  · split at h
    · cases h
    · next h' => simpa using h'

@[simp] theorem lasting_evaluate (s : State) (p : Port) : (s.evaluate p).lasting = s.lasting := by
  unfold State.evaluate
  split
  · split
    · simp
    · next h =>
      have ha := firstFail_admin h
      have hb : ((s.setUnit p .assigned).rowAt p).admin = true := by
        simp [State.setUnit, rowAt_writeRow, ha]
      repeat' split
      all_goals simp [lasting_askPower, lasting_setUnit, ha, hb]
  · rfl

/-- A walk whose steps keep what lasts keeps it. -/
theorem lasting_foldl {α : Type} (f : State → α → State) (l : List α) (s : State)
    (h : ∀ t a, (f t a).lasting = t.lasting) : (l.foldl f s).lasting = s.lasting := by
  induction l generalizing s with
  | nil => rfl
  | cons a l ih => simp [ih, h]

@[simp] theorem lasting_walkOver (s : State) (ps : List Port) (f : State → Port → Bool) :
    (s.walkOver ps f).lasting = s.lasting :=
  lasting_foldl _ _ _ fun t p => by split <;> simp

@[simp] theorem lasting_headroomWalk (s : State) (out : List Port) :
    (s.headroomWalk out).lasting = s.lasting :=
  lasting_walkOver s _ _

theorem lasting_serveNotices (out : List Port) (n : Nat) (s : State) :
    (s.serveNotices out n).lasting = s.lasting := by
  induction n generalizing s with
  | zero => rfl
  | succ n ih =>
    unfold State.serveNotices
    split
    · simp only [ih, lasting_headroomWalk]; rfl
    · rfl

/-- The walks a headroom notice brings keep what lasts. -/
@[simp] theorem lasting_serveBut (s : State) (out : List Port) : (s.serveBut out).lasting = s.lasting :=
  lasting_serveNotices out _ s

@[simp] theorem lasting_serve (s : State) : s.serve.lasting = s.lasting := lasting_serveBut s []

/-- With no headroom notice pending, there is none to serve. -/
theorem serveBut_of_none (s : State) (out : List Port) (h : Task.headroom ∉ s.agenda) :
    s.serveBut out = s := by
  unfold State.serveBut
  rw [show Config.agendaBound = 999 + 1 from rfl]
  unfold State.serveNotices
  rw [if_neg h]

theorem serve_of_none (s : State) (h : Task.headroom ∉ s.agenda) : s.serve = s := serveBut_of_none s [] h

@[simp] theorem lasting_recomputeNow (s : State) : s.recomputeNow.lasting = s.lasting := by
  simp [State.recomputeNow]

@[simp] theorem lasting_walk (s : State) (ps : List Port) (f : State → Port → Bool) :
    (s.walk ps f).lasting = s.lasting := by simp [State.walk]

@[simp] theorem lasting_availabilityWalk (s : State) : s.availabilityWalk.lasting = s.lasting :=
  lasting_walk s _ _
@[simp] theorem lasting_completionWalk (s : State) : s.completionWalk.lasting = s.lasting :=
  lasting_walk s _ _

@[simp] theorem lasting_removalNotice (s : State) (i : Slot) :
    (s.removalNotice i).lasting = s.lasting := by simp [State.removalNotice]

@[simp] theorem lasting_availability (s : State) : s.availability.lasting = s.lasting := by
  unfold State.availability
  split <;> simp

@[simp] theorem lasting_startsAdmitting (s : State) (i : Slot) :
    (s.startsAdmitting i).lasting = s.lasting :=
  (lasting_walk _ _ _).trans (lasting_setAux _ _ _ rfl)

@[simp] theorem lasting_stopsAdmitting (s : State) (i : Slot) :
    (s.stopsAdmitting i).lasting = s.lasting := by
  unfold State.stopsAdmitting
  rw [lasting_foldl]
  · exact lasting_setAux _ _ _ rfl
  · intro t p
    split <;> simp

@[simp] theorem lasting_bladePowered (s : State) (i : Slot) : (s.bladePowered i).lasting = s.lasting :=
  (lasting_walk _ _ _).trans (lasting_setAux _ _ _ rfl)

@[simp] theorem lasting_bladeOff (s : State) (i : Slot) : (s.bladeOff i).lasting = s.lasting := by
  unfold State.bladeOff
  rw [lasting_foldl]
  · exact lasting_setAux _ _ _ rfl
  · intro t p
    split
    · rfl
    · exact lasting_writeRow _ _ _ rfl

/-! ## Enforcement and distribution -/

@[simp] theorem lasting_setEnforcement (s : State) (i : Slot) (e : Enforcement) (n : Nat)
    (c : EnforceCause) : (s.setEnforcement i e n c).lasting = s.lasting := by
  have h : (s.setSlot i { s.slotAt i with enforcement := e, attempt := n }).lasting = s.lasting :=
    lasting_setSlot _ _ _ rfl
  unfold State.setEnforcement
  dsimp only
  repeat' split
  all_goals simp only [lasting_condition, lasting_report, h]

@[simp] theorem lasting_setRepush (s : State) (i : Slot) (t : Option Nat) :
    (s.setRepush i t).lasting = s.lasting := lasting_setAux _ _ _ rfl

@[simp] theorem lasting_queuePush (s : State) (i : Slot) : (s.queuePush i).lasting = s.lasting :=
  lasting_enqueue s _

@[simp] theorem lasting_startPush (s : State) (i : Slot) (c : EnforceCause) :
    (s.startPush i c).lasting = s.lasting := by simp [State.startPush]

@[simp] theorem lasting_finishCommit (s : State) : s.finishCommit.lasting = s.lasting := by
  simp only [State.finishCommit, lasting_report]; rfl

@[simp] theorem lasting_endDistribution (s : State) : s.endDistribution.lasting = s.lasting := by
  unfold State.endDistribution
  split <;> simp

@[simp] theorem lasting_leaveWaitSet (s : State) (i : Slot) : (s.leaveWaitSet i).lasting = s.lasting := by
  unfold State.leaveWaitSet
  split
  · simp only [lasting_endDistribution]; rfl
  · rfl

@[simp] theorem lasting_enforcePowerUp (s : State) (i : Slot) (c : EnforceCause) :
    (s.enforcePowerUp i c).lasting = s.lasting := by
  unfold State.enforcePowerUp
  split <;> simp

@[simp] theorem lasting_enforceOff (s : State) (i : Slot) : (s.enforceOff i).lasting = s.lasting := by
  simp only [State.enforceOff, lasting_leaveWaitSet]
  refine (lasting_setAux _ _ _ ?_).trans (lasting_setEnforcement _ _ _ _ _)
  rfl

@[simp] theorem lasting_compareHeld (s : State) (i : Slot) (g : Option Word) :
    (s.compareHeld i g).lasting = s.lasting := by
  unfold State.compareHeld
  split <;> simp

@[simp] theorem lasting_pushCurrent (s : State) (i : Slot) : (s.pushCurrent i).lasting = s.lasting := by
  unfold State.pushCurrent
  dsimp only
  split <;> simp

@[simp] theorem lasting_pushStale (s : State) (i : Slot) : (s.pushStale i).lasting = s.lasting := by
  unfold State.pushStale
  dsimp only
  split <;> simp

@[simp] theorem lasting_pushOutcome (s : State) (i : Slot) (g : Word) (r : Option Word) :
    (s.pushOutcome i g r).lasting = s.lasting := by
  have h : ∀ n, (s.setSlot i { s.slotAt i with attempt := n }).lasting = s.lasting := fun n =>
    lasting_setSlot _ _ _ rfl
  unfold State.pushOutcome
  dsimp only
  repeat' split
  all_goals simp only [lasting_pushCurrent, lasting_queuePush, lasting_setRepush, lasting_pushStale, h]

/-! ## Cooling -/

@[simp] theorem lasting_raise (s : State) (z : AirZone) : (s.raise z).lasting = s.lasting := by
  unfold State.raise
  dsimp only
  split
  · rfl
  · rw [lasting_foldl] <;> simp

@[simp] theorem lasting_raiseBoth (s : State) : s.raiseBoth.lasting = s.lasting := by
  simp [State.raiseBoth]

@[simp] theorem lasting_updateZone (s : State) (z : AirZone) : (s.updateZone z).lasting = s.lasting := by
  unfold State.updateZone
  dsimp only
  rw [lasting_foldl] <;> simp

@[simp] theorem lasting_orderThermalOff (s : State) (z : AirZone) :
    (s.orderThermalOff z).lasting = s.lasting :=
  lasting_foldl _ _ _ fun t i => by split <;> simp

@[simp] theorem lasting_evaluateTemp (s : State) (z : AirZone) :
    (s.evaluateTemp z).lasting = s.lasting := by
  unfold State.evaluateTemp
  dsimp only
  repeat' split
  all_goals simp [State.handTempConditions]

@[simp] theorem lasting_deriveZone (s : State) (z : AirZone) : (s.deriveZone z).lasting = s.lasting := by
  unfold State.deriveZone
  dsimp only
  rw [lasting_evaluateTemp]
  repeat' split
  all_goals simp

@[simp] theorem lasting_deriveSensorless (s : State) : s.deriveSensorless.lasting = s.lasting :=
  lasting_foldl _ _ _ fun t z => by split <;> simp

@[simp] theorem lasting_coolingJoin (s : State) (i : Slot) : (s.coolingJoin i).lasting = s.lasting := by
  simp only [State.coolingJoin, lasting_deriveZone]; rfl

@[simp] theorem lasting_coolingLeave (s : State) (i : Slot) : (s.coolingLeave i).lasting = s.lasting := by
  unfold State.coolingLeave
  split
  · simp only [lasting_deriveZone]; rfl
  · rfl

@[simp] theorem lasting_coolingJoinCp (s : State) (c : Cp) : (s.coolingJoinCp c).lasting = s.lasting := by
  simp only [State.coolingJoinCp, lasting_deriveZone]; rfl

@[simp] theorem lasting_coolingLeaveCp (s : State) (c : Cp) :
    (s.coolingLeaveCp c).lasting = s.lasting := by
  unfold State.coolingLeaveCp
  split
  · simp only [lasting_deriveZone]; rfl
  · rfl

@[simp] theorem lasting_coolingUpdate (s : State) (i : Slot) : (s.coolingUpdate i).lasting = s.lasting := by
  unfold State.coolingUpdate
  split <;> simp

@[simp] theorem lasting_coolingUpdateCp (s : State) (c : Cp) :
    (s.coolingUpdateCp c).lasting = s.lasting := by
  unfold State.coolingUpdateCp
  split <;> simp

@[simp] theorem lasting_shutdownEntry (s : State) (i : Slot) :
    (s.shutdownEntry i).lasting = s.lasting := by
  unfold State.shutdownEntry
  split <;> simp

/-! ## Slot states and blade power -/

@[simp] theorem lasting_enterSlotState (s : State) (i : Slot) (st : SlotState) (c : Cause) :
    (s.enterSlotState i st c).lasting = s.lasting := by
  unfold State.enterSlotState
  dsimp only
  split <;> simp only [lasting_leaveShed, State.slotEvent, lasting_report] <;>
    exact lasting_setSlot _ _ _ rfl

@[simp] theorem lasting_setSlotState (s : State) (i : Slot) (st : SlotState) (c : Cause) :
    (s.setSlotState i st c).lasting = s.lasting := by
  unfold State.setSlotState
  dsimp only
  split <;> simp

@[simp] theorem lasting_setLine (s : State) (i : Slot) (v : Bool) : (s.setLine i v).lasting = s.lasting :=
  lasting_setAux _ _ _ rfl

@[simp] theorem lasting_setReadyTimer (s : State) (i : Slot) (t : Option Nat) :
    (s.setReadyTimer i t).lasting = s.lasting := lasting_setAux _ _ _ rfl

@[simp] theorem lasting_powerUp (s : State) (i : Slot) (c : Cause) : (s.powerUp i c).lasting = s.lasting := by
  simp [State.powerUp]

@[simp] theorem lasting_enterPowered (s : State) (i : Slot) : (s.enterPowered i).lasting = s.lasting := by
  simp [State.enterPowered]

@[simp] theorem lasting_removePower (s : State) (i : Slot) : (s.removePower i).lasting = s.lasting := by
  simp only [State.removePower, lasting_leftPowering, lasting_coolingLeave, lasting_enforceOff,
    lasting_bladeOff]
  refine (lasting_setAux _ _ _ ?_).trans ((lasting_withdrawPower _ _).trans (lasting_setAux _ _ _ ?_))
  all_goals rfl

@[simp] theorem lasting_leavePower (s : State) (i : Slot) (st : SlotState) (c : Cause) :
    (s.leavePower i st c).lasting = s.lasting := by
  unfold State.leavePower
  split <;> simp

/-! ## Notices, orders and the end of a command -/

@[simp] theorem lasting_mapPass (s : State) (f : RestorePass → RestorePass) :
    (s.mapPass f).lasting = s.lasting := rfl

@[simp] theorem lasting_admitCandidate (s : State) (i : Slot) :
    (s.admitCandidate i).lasting = s.lasting := by simp [State.admitCandidate]

@[simp] theorem lasting_skipCandidate (s : State) (i : Slot) :
    (s.skipCandidate i).lasting = s.lasting := by
  unfold State.skipCandidate
  dsimp only
  split <;> simp

@[simp] theorem lasting_restoreStep (s : State) : s.restoreStep.lasting = s.lasting := by
  unfold State.restoreStep
  dsimp only
  repeat' split
  all_goals simp

/-- Whatever notice or order is carried out, what lasts is kept. -/
@[simp] theorem lasting_runTask (s : State) (k : Task) : (s.runTask k).lasting = s.lasting := by
  cases k <;> simp [State.runTask]

@[simp] theorem lasting_thermalSweep (n : Nat) (s : State) : (s.thermalSweep n).lasting = s.lasting := by
  induction n generalizing s with
  | zero => rfl
  | succ n ih =>
    unfold State.thermalSweep
    split
    · rfl
    · rw [ih, lasting_leavePower]

theorem lasting_drain (n : Nat) (s : State) : (s.drain n).lasting = s.lasting := by
  induction n generalizing s with
  | zero => exact lasting_thermalSweep 8 s
  | succ n ih =>
    unfold State.drain
    split
    · rfl
    · simp only [ih, lasting_runTask]; rfl

/-- The notices and orders carried out at the end of a command keep what lasts. -/
@[simp] theorem lasting_settle (s : State) : s.settle.lasting = s.lasting := lasting_drain _ s

/-- With nothing handed on, the end of a command changes nothing. -/
theorem settle_of_quiet (s : State) (h : s.agenda = []) : s.settle = s := by
  unfold State.settle
  rw [show Config.agendaBound = 999 + 1 from rfl]
  unfold State.drain
  rw [h]

theorem drain_agenda (n : Nat) (s : State) : (s.drain n).agenda = [] := by
  induction n generalizing s with
  | zero => rfl
  | succ n ih =>
    unfold State.drain
    split
    · next h => exact h
    · exact ih _

/-- No notice waits after the end of a command. -/
@[simp] theorem settle_agenda (s : State) : s.settle.agenda = [] := drain_agenda _ s

end Sys2Proof.Machine
end

