-- ==== Sys2Proof/Laws/Ops.lean ====
section
/-! SUPPORT. For each shared operation, what it answers: the gate of a request, responses, settings, reports,
alarm points, the scheduler's queue and the end of a module transaction. -/

namespace Sys2Proof.Machine

/-! ## Requests and responses -/

theorem respond_eq_answered (s : State) (h : Header) (st : Status) (r : Results) :
    s.respond h.link h.tag st r = s.answered h st r := rfl

/-- A request that passes every test is not refused, whatever its STARTING test. -/
theorem refusal_of_passes {s : State} {r : Right} {h : Header} (hp : s.Passes r h) (a : Bool) :
    s.refusal r a h = none := by
  obtain ⟨-, h2, h3, h4, h5, h6⟩ := hp
  unfold State.refusal
  simp only [h2, State.starting, h3, h4, h6, Option.isSome_none]
  simp only [Bool.false_eq_true, if_false, reduceCtorEq, decide_false, Bool.false_and, Bool.not_true,
    if_true]
  split
  · next hc => exact absurd (h5 hc.1) hc.2
  · rfl

/-- A request that passes goes to its block. -/
theorem request_of_passes {s : State} {r : Right} {h : Header} (hp : s.Passes r h) (a : Bool)
    (f : State → State) : s.request r a h f = f s := by
  unfold State.request
  rw [hp.1, refusal_of_passes hp]
  rfl

/-- A refused request is answered and nothing else. -/
theorem request_of_refusal {s : State} {r : Right} {h : Header} {a : Bool} {st : Status} {res : Results}
    (hu : (s.linkAt h.link).up = true) (hr : s.refusal r a h = some (st, res)) (f : State → State) :
    s.request r a h f = s.answered h st res := by
  unfold State.request
  rw [hu, hr]
  rfl

/-- A DOWN link takes no frame. -/
theorem request_of_down {s : State} {r : Right} {h : Header} {a : Bool}
    (hu : (s.linkAt h.link).up = false) (f : State → State) : s.request r a h f = s := by
  unfold State.request
  rw [hu]
  rfl

theorem passes_running {s : State} {r : Right} {h : Header} (hp : s.Passes r h) : s.starting = false := by
  simp [State.starting, hp.2.2.1]

@[simp] theorem answered_agenda (s : State) (h : Header) (st : Status) (r : Results) :
    (s.answered h st r).agenda = s.agenda := rfl

/-- A settings request as the statements write its outcome. -/
theorem answered_changeSettings (s : State) (h : Header) (f : Settings) (st : Status) (r : Results) :
    (s.changeSettings f).answered h st r = s.tookSettings h f st r := by
  unfold State.changeSettings State.tookSettings
  split
  · next hf => subst hf; rfl
  · rfl

/-! ## Roles -/

@[simp] theorem ctlOfLink_link (c : Ctl) : ctlOfLink c.link = some c := by cases c <;> rfl

@[simp] theorem ctlOfLink_service : ctlOfLink .service = none := rfl

@[simp] theorem other_other (c : Ctl) : c.other.other = c := by cases c <;> rfl

theorem other_ne (c : Ctl) : c.other ≠ c := by cases c <;> simp [Ctl.other]

theorem ne_iff_other (c d : Ctl) : c ≠ d ↔ c = d.other := by cases c <;> cases d <;> simp [Ctl.other]

/-! ## Alarm points -/

/-- A moved point: the outputs are those of the points and the cutoff flag. -/
theorem movePoint_alarms (s : State) (n : Fin 57) (st : PointState) (c : Half) :
    (s.movePoint n st c).alarms = AlarmUnit.derive { s.alarms with
      points := put s.alarms.points n st
      cutoff := s.alarms.cutoff && !(st = .raised && severity n ≠ .minor) } := rfl

@[simp] theorem derive_points (u : AlarmUnit) : u.derive.points = u.points := rfl
@[simp] theorem derive_cutoff (u : AlarmUnit) : u.derive.cutoff = u.cutoff := rfl
@[simp] theorem derive_recording (u : AlarmUnit) : u.derive.recording = u.recording := rfl
@[simp] theorem derive_recorded (u : AlarmUnit) : u.derive.recorded = u.recorded := rfl

/-- A condition leaves the points, or moves the one it names as R158 says. -/
theorem applyCondition_cases (s : State) (n : Fin 57) (v : Bool) :
    s.applyCondition n v = s ∨
      s.applyCondition n v =
        s.movePoint n ((look s.alarms.points n).onCondition v) (if v then 1 else 2) := by
  unfold State.applyCondition
  dsimp only
  split
  · exact .inl rfl
  · exact .inr rfl

/-! ## The scheduler -/

/-- A transaction asked for waits or runs. -/
theorem enqueue_mem (s : State) (t : Txn) :
    t ∈ (s.enqueue t).bus.waiting ∨ (s.enqueue t).bus.running.map (·.txn) = some t := by
  have hj : t ∈ joinQueue t s.bus.waiting := by
    unfold joinQueue
    split
    · next ha =>
      obtain ⟨u, hu, he⟩ := List.any_eq_true.mp ha
      refine List.mem_map.mpr ⟨u, hu, ?_⟩
      rw [he]
      rfl
    · simp
  unfold State.enqueue State.kickBus
  dsimp only
  split
  · exact .inl hj
  · split
    · exact .inl hj
    · next u hu =>
      by_cases he : t = u
      · right; rw [he]; rfl
      · left
        exact (List.mem_erase_of_ne he).mpr hj

/-- The end of a transaction frees the bus and starts the next one. -/
theorem freeBus_running (s : State) : s.freeBus.bus.running.map (·.txn) = nextTxn s.bus.waiting := by
  unfold State.freeBus State.kickBus
  dsimp only
  split
  · next h => simp at h
  · split
    · next h => simp [h]
    · next u h => simp [h, State.startTxn]

/-! ## The time base -/

/-- With a command due, a step of an empty queue queues it and nothing else. -/
theorem tick_of_due {s : State} {c : Instr} {rest : List Instr} (h : s.due = c :: rest) :
    s.tick = { s with pending := [c] } := by simp [State.tick, h]

/-- With nothing due, one millisecond passes. -/
theorem tick_of_quiet {s : State} (h : s.due = []) : s.tick = s.counted := by simp [State.tick, h]

/-! ## Event queues -/

/-- A queue emptied by a link reset, or by a link that comes UP again: depth and mask stay. -/
theorem queueReset_eq (s : State) (l : LinkId) :
    s.queueReset l = { s with
      queues := put s.queues (LinkId.idx l)
        ⟨[], (s.queueAt l).depth, (s.queueAt l).mask, 0, false, false⟩ } := rfl

/-! ## Rows -/

/-- A down row is relabelled only when one of checks 1 to 3 fails; nothing but the condition moves. -/
theorem relabel_rowAt (s : State) (p q : Port) :
    (s.relabel p).rowAt q = s.rowAt q ∨
      q = p ∧ ∃ r, (s.relabel p).rowAt q = { s.rowAt q with cond := .down r } := by
  unfold State.relabel
  split
  · next r _ _ =>
    by_cases h : q = p
    · subst h
      exact .inr ⟨rfl, r, by simp [State.setCond, rowAt_writeRow]⟩
    · exact .inl (by simp [State.setCond, rowAt_writeRow, h])
  · exact .inl rfl

end Sys2Proof.Machine
end

