-- ==== Sys2Proof/Laws/PerInstr.lean ====
section
/-! SUPPORT. Statements made of every command, one lemma per constructor: no word of any size spells it, so
a command reaches the part from outside only (assumption 7). -/

namespace Sys2Proof

/-- No word of any size spells the command (assumption 7: the table gives no row bits). -/
def Laws.NoWordSpells.Statement (i : Instr) : Prop := ∀ nbits w : Nat, decodeTableWord nbits w ≠ some i

/-- The decoder answers no command. -/
theorem Laws.decodeTableWord_none (nbits w : Nat) : decodeTableWord nbits w = none := rfl

/-- What the decoder never answers is spelt by no word. -/
theorem Laws.noWordSpells (i : Instr) : Laws.NoWordSpells.Statement i := fun nbits w h => by
  rw [Laws.decodeTableWord_none] at h; cases h

theorem Laws.NoWordSpells.powerOnReset (serial : Option Word) :
    Laws.NoWordSpells.Statement (.powerOnReset serial) := Laws.noWordSpells _
theorem Laws.NoWordSpells.warmRestart (cause : RestartCause) (serial : Option Word) :
    Laws.NoWordSpells.Statement (.warmRestart cause serial) := Laws.noWordSpells _
theorem Laws.NoWordSpells.sectionLoadComplete (sec : StoreSection) (good : Bool) :
    Laws.NoWordSpells.Statement (.sectionLoadComplete sec good) := Laws.noWordSpells _
theorem Laws.NoWordSpells.endOfStarting :
    Laws.NoWordSpells.Statement .endOfStarting := Laws.noWordSpells _
theorem Laws.NoWordSpells.linkUp (link : LinkId) :
    Laws.NoWordSpells.Statement (.linkUp link) := Laws.noWordSpells _
theorem Laws.NoWordSpells.linkReset (link : LinkId) (cause : LinkResetCause) :
    Laws.NoWordSpells.Statement (.linkReset link cause) := Laws.noWordSpells _
theorem Laws.NoWordSpells.frameDiscarded (link : LinkId) (bytes : List Byte) :
    Laws.NoWordSpells.Statement (.frameDiscarded link bytes) := Laws.noWordSpells _
theorem Laws.NoWordSpells.unknownRequest (h : Header) (code : Byte) :
    Laws.NoWordSpells.Statement (.unknownRequest h code) := Laws.noWordSpells _
theorem Laws.NoWordSpells.getStatus (h : Header) :
    Laws.NoWordSpells.Statement (.getStatus h) := Laws.noWordSpells _
theorem Laws.NoWordSpells.resetLink (h : Header) :
    Laws.NoWordSpells.Statement (.resetLink h) := Laws.noWordSpells _
theorem Laws.NoWordSpells.restartPart (h : Header) :
    Laws.NoWordSpells.Statement (.restartPart h) := Laws.noWordSpells _
theorem Laws.NoWordSpells.setCursor (h : Header) (table : Option Table) (start : Nat) (dir : Option Direction) :
    Laws.NoWordSpells.Statement (.setCursor h table start dir) := Laws.noWordSpells _
theorem Laws.NoWordSpells.readCursor (h : Header) (n : Nat) :
    Laws.NoWordSpells.Statement (.readCursor h n) := Laws.noWordSpells _
theorem Laws.NoWordSpells.requalify (h : Header) (pos : PositionName) :
    Laws.NoWordSpells.Statement (.requalify h pos) := Laws.noWordSpells _
theorem Laws.NoWordSpells.setAutoPower (h : Header) (slot : Nat) (on : Bool) :
    Laws.NoWordSpells.Statement (.setAutoPower h slot on) := Laws.noWordSpells _
theorem Laws.NoWordSpells.powerSlotOn (h : Header) (slot : Nat) :
    Laws.NoWordSpells.Statement (.powerSlotOn h slot) := Laws.noWordSpells _
theorem Laws.NoWordSpells.powerSlotOff (h : Header) (slot : Nat) :
    Laws.NoWordSpells.Statement (.powerSlotOff h slot) := Laws.noWordSpells _
theorem Laws.NoWordSpells.clearSticky (h : Header) :
    Laws.NoWordSpells.Statement (.clearSticky h) := Laws.noWordSpells _
theorem Laws.NoWordSpells.readLedger (h : Header) :
    Laws.NoWordSpells.Statement (.readLedger h) := Laws.noWordSpells _
theorem Laws.NoWordSpells.setRedundancyPolicy (h : Header) (policy : Option Policy) :
    Laws.NoWordSpells.Statement (.setRedundancyPolicy h policy) := Laws.noWordSpells _
theorem Laws.NoWordSpells.setGraceTime (h : Header) (seconds : Nat) :
    Laws.NoWordSpells.Statement (.setGraceTime h seconds) := Laws.noWordSpells _
theorem Laws.NoWordSpells.setHeadroomWarning (h : Header) (percent : Nat) :
    Laws.NoWordSpells.Statement (.setHeadroomWarning h percent) := Laws.noWordSpells _
theorem Laws.NoWordSpells.setReportScale (h : Header) (scale : Option Scale) :
    Laws.NoWordSpells.Statement (.setReportScale h scale) := Laws.noWordSpells _
theorem Laws.NoWordSpells.setShedPriority (h : Header) (slots : List Nat) :
    Laws.NoWordSpells.Statement (.setShedPriority h slots) := Laws.noWordSpells _
theorem Laws.NoWordSpells.setAutoRestore (h : Header) (on : Option Bool) :
    Laws.NoWordSpells.Statement (.setAutoRestore h on) := Laws.noWordSpells _
theorem Laws.NoWordSpells.setFanCurve (h : Header) (points : List Breakpoint) :
    Laws.NoWordSpells.Statement (.setFanCurve h points) := Laws.noWordSpells _
theorem Laws.NoWordSpells.setHysteresis (h : Header) (value : Int) :
    Laws.NoWordSpells.Statement (.setHysteresis h value) := Laws.noWordSpells _
theorem Laws.NoWordSpells.setTrayMinimum (h : Header) (duty : Int) :
    Laws.NoWordSpells.Statement (.setTrayMinimum h duty) := Laws.noWordSpells _
theorem Laws.NoWordSpells.setTemperatureThresholds (h : Header) (warn crit shutdown : Int) :
    Laws.NoWordSpells.Statement (.setTemperatureThresholds h warn crit shutdown) := Laws.noWordSpells _
theorem Laws.NoWordSpells.readCooling (h : Header) :
    Laws.NoWordSpells.Statement (.readCooling h) := Laws.noWordSpells _
theorem Laws.NoWordSpells.installLicence (h : Header) (lic : LicenceFields) :
    Laws.NoWordSpells.Statement (.installLicence h lic) := Laws.noWordSpells _
theorem Laws.NoWordSpells.removeLicence (h : Header) (serial : Word) :
    Laws.NoWordSpells.Statement (.removeLicence h serial) := Laws.noWordSpells _
theorem Laws.NoWordSpells.releasePortUnit (h : Header) (port : Nat) :
    Laws.NoWordSpells.Statement (.releasePortUnit h port) := Laws.noWordSpells _
theorem Laws.NoWordSpells.setParkTime (h : Header) (seconds : Nat) :
    Laws.NoWordSpells.Statement (.setParkTime h seconds) := Laws.noWordSpells _
theorem Laws.NoWordSpells.readLicencePool (h : Header) :
    Laws.NoWordSpells.Statement (.readLicencePool h) := Laws.noWordSpells _
theorem Laws.NoWordSpells.enablePorts (h : Header) (first last : Nat) :
    Laws.NoWordSpells.Statement (.enablePorts h first last) := Laws.noWordSpells _
theorem Laws.NoWordSpells.disablePorts (h : Header) (first last : Nat) :
    Laws.NoWordSpells.Statement (.disablePorts h first last) := Laws.noWordSpells _
theorem Laws.NoWordSpells.openTransaction (h : Header) :
    Laws.NoWordSpells.Statement (.openTransaction h) := Laws.noWordSpells _
theorem Laws.NoWordSpells.createZone (h : Header) (name : Name) :
    Laws.NoWordSpells.Statement (.createZone h name) := Laws.noWordSpells _
theorem Laws.NoWordSpells.renameZone (h : Header) (zone : Nat) (name : Name) :
    Laws.NoWordSpells.Statement (.renameZone h zone name) := Laws.noWordSpells _
theorem Laws.NoWordSpells.deleteZone (h : Header) (zone : Nat) :
    Laws.NoWordSpells.Statement (.deleteZone h zone) := Laws.noWordSpells _
theorem Laws.NoWordSpells.addMember (h : Header) (zone : Nat) (member : RawMember) :
    Laws.NoWordSpells.Statement (.addMember h zone member) := Laws.noWordSpells _
theorem Laws.NoWordSpells.removeMember (h : Header) (zone : Nat) (member : RawMember) :
    Laws.NoWordSpells.Statement (.removeMember h zone member) := Laws.noWordSpells _
theorem Laws.NoWordSpells.createConfiguration (h : Header) (name : Name) (zone : Nat) :
    Laws.NoWordSpells.Statement (.createConfiguration h name zone) := Laws.noWordSpells _
theorem Laws.NoWordSpells.deleteConfiguration (h : Header) (cfg : Nat) :
    Laws.NoWordSpells.Statement (.deleteConfiguration h cfg) := Laws.noWordSpells _
theorem Laws.NoWordSpells.addZoneToConfiguration (h : Header) (cfg zone : Nat) :
    Laws.NoWordSpells.Statement (.addZoneToConfiguration h cfg zone) := Laws.noWordSpells _
theorem Laws.NoWordSpells.removeZoneFromConfiguration (h : Header) (cfg zone : Nat) :
    Laws.NoWordSpells.Statement (.removeZoneFromConfiguration h cfg zone) := Laws.noWordSpells _
theorem Laws.NoWordSpells.selectActiveConfiguration (h : Header) (cfg : Option Nat) :
    Laws.NoWordSpells.Statement (.selectActiveConfiguration h cfg) := Laws.noWordSpells _
theorem Laws.NoWordSpells.setDefaultAccess (h : Header) (access : Option Access) :
    Laws.NoWordSpells.Statement (.setDefaultAccess h access) := Laws.noWordSpells _
theorem Laws.NoWordSpells.abortTransaction (h : Header) :
    Laws.NoWordSpells.Statement (.abortTransaction h) := Laws.noWordSpells _
theorem Laws.NoWordSpells.readZoning (h : Header) :
    Laws.NoWordSpells.Statement (.readZoning h) := Laws.noWordSpells _
theorem Laws.NoWordSpells.commit (h : Header) :
    Laws.NoWordSpells.Statement (.commit h) := Laws.noWordSpells _
theorem Laws.NoWordSpells.claimActive (h : Header) :
    Laws.NoWordSpells.Statement (.claimActive h) := Laws.noWordSpells _
theorem Laws.NoWordSpells.renew (h : Header) :
    Laws.NoWordSpells.Statement (.renew h) := Laws.noWordSpells _
theorem Laws.NoWordSpells.declareStandby (h : Header) (ready : Bool) :
    Laws.NoWordSpells.Statement (.declareStandby h ready) := Laws.noWordSpells _
theorem Laws.NoWordSpells.yieldActive (h : Header) :
    Laws.NoWordSpells.Statement (.yieldActive h) := Laws.noWordSpells _
theorem Laws.NoWordSpells.releaseActive (h : Header) :
    Laws.NoWordSpells.Statement (.releaseActive h) := Laws.noWordSpells _
theorem Laws.NoWordSpells.setLeaseTime (h : Header) (ms : Nat) :
    Laws.NoWordSpells.Statement (.setLeaseTime h ms) := Laws.noWordSpells _
theorem Laws.NoWordSpells.setHold (h : Header) (kind : Option HoldKind) :
    Laws.NoWordSpells.Statement (.setHold h kind) := Laws.noWordSpells _
theorem Laws.NoWordSpells.releaseHold (h : Header) (kind : Option HoldKind) :
    Laws.NoWordSpells.Statement (.releaseHold h kind) := Laws.noWordSpells _
theorem Laws.NoWordSpells.readRoles (h : Header) :
    Laws.NoWordSpells.Statement (.readRoles h) := Laws.noWordSpells _
theorem Laws.NoWordSpells.acknowledgeAlarm (h : Header) (target : AlarmTarget) :
    Laws.NoWordSpells.Statement (.acknowledgeAlarm h target) := Laws.noWordSpells _
theorem Laws.NoWordSpells.cutOffAudible (h : Header) :
    Laws.NoWordSpells.Statement (.cutOffAudible h) := Laws.noWordSpells _
theorem Laws.NoWordSpells.readAlarmSummary (h : Header) :
    Laws.NoWordSpells.Statement (.readAlarmSummary h) := Laws.noWordSpells _
theorem Laws.NoWordSpells.fetchEvents (h : Header) (n : Nat) :
    Laws.NoWordSpells.Statement (.fetchEvents h n) := Laws.noWordSpells _
theorem Laws.NoWordSpells.setEventMask (h : Header) (mask : ClassMask) :
    Laws.NoWordSpells.Statement (.setEventMask h mask) := Laws.noWordSpells _
theorem Laws.NoWordSpells.setQueueDepth (h : Header) (depth : Nat) :
    Laws.NoWordSpells.Statement (.setQueueDepth h depth) := Laws.noWordSpells _
theorem Laws.NoWordSpells.readEventQueue (h : Header) :
    Laws.NoWordSpells.Statement (.readEventQueue h) := Laws.noWordSpells _
theorem Laws.NoWordSpells.presenceInputChange (pos : Position) (present : Bool) :
    Laws.NoWordSpells.Statement (.presenceInputChange pos present) := Laws.noWordSpells _
theorem Laws.NoWordSpells.debounceTimerExpiry (pos : Position) :
    Laws.NoWordSpells.Statement (.debounceTimerExpiry pos) := Laws.noWordSpells _
theorem Laws.NoWordSpells.identityReadReply (pos : Position) (reply : IdentityReply) :
    Laws.NoWordSpells.Statement (.identityReadReply pos reply) := Laws.noWordSpells _
theorem Laws.NoWordSpells.identityReadTimeout :
    Laws.NoWordSpells.Statement .identityReadTimeout := Laws.noWordSpells _
theorem Laws.NoWordSpells.statusPollReply (pos : Position) (reply : PollReply) :
    Laws.NoWordSpells.Statement (.statusPollReply pos reply) := Laws.noWordSpells _
theorem Laws.NoWordSpells.statusPollTimeout :
    Laws.NoWordSpells.Statement .statusPollTimeout := Laws.noWordSpells _
theorem Laws.NoWordSpells.pollTimerExpiry (pos : Position) :
    Laws.NoWordSpells.Statement (.pollTimerExpiry pos) := Laws.noWordSpells _
theorem Laws.NoWordSpells.readyTimerExpiry (slot : Slot) :
    Laws.NoWordSpells.Statement (.readyTimerExpiry slot) := Laws.noWordSpells _
theorem Laws.NoWordSpells.powerEnableReply (slot : Slot) :
    Laws.NoWordSpells.Statement (.powerEnableReply slot) := Laws.noWordSpells _
theorem Laws.NoWordSpells.portEnableReply (port : Port) :
    Laws.NoWordSpells.Statement (.portEnableReply port) := Laws.noWordSpells _
theorem Laws.NoWordSpells.portDisableReply (port : Port) :
    Laws.NoWordSpells.Statement (.portDisableReply port) := Laws.noWordSpells _
theorem Laws.NoWordSpells.bladeCommandTimeout :
    Laws.NoWordSpells.Statement .bladeCommandTimeout := Laws.noWordSpells _
theorem Laws.NoWordSpells.untakenReply (pos : Position) :
    Laws.NoWordSpells.Statement (.untakenReply pos) := Laws.noWordSpells _
theorem Laws.NoWordSpells.pushReply (slot : Slot) (gen : Word) :
    Laws.NoWordSpells.Statement (.pushReply slot gen) := Laws.noWordSpells _
theorem Laws.NoWordSpells.pushTimeout :
    Laws.NoWordSpells.Statement .pushTimeout := Laws.noWordSpells _
theorem Laws.NoWordSpells.repushTimerExpiry (slot : Slot) :
    Laws.NoWordSpells.Statement (.repushTimerExpiry slot) := Laws.noWordSpells _
theorem Laws.NoWordSpells.graceTimerExpiry :
    Laws.NoWordSpells.Statement .graceTimerExpiry := Laws.noWordSpells _
theorem Laws.NoWordSpells.restoreTimerExpiry :
    Laws.NoWordSpells.Statement .restoreTimerExpiry := Laws.noWordSpells _
theorem Laws.NoWordSpells.updateTimerExpiry (zone : AirZone) :
    Laws.NoWordSpells.Statement (.updateTimerExpiry zone) := Laws.noWordSpells _
theorem Laws.NoWordSpells.uptimeMinuteTimerExpiry :
    Laws.NoWordSpells.Statement .uptimeMinuteTimerExpiry := Laws.noWordSpells _
theorem Laws.NoWordSpells.parkTimerExpiry (slot : Slot) :
    Laws.NoWordSpells.Statement (.parkTimerExpiry slot) := Laws.noWordSpells _
theorem Laws.NoWordSpells.validationComplete :
    Laws.NoWordSpells.Statement .validationComplete := Laws.noWordSpells _
theorem Laws.NoWordSpells.storeWriteStart :
    Laws.NoWordSpells.Statement .storeWriteStart := Laws.noWordSpells _
theorem Laws.NoWordSpells.storeWriteComplete (good : Bool) :
    Laws.NoWordSpells.Statement (.storeWriteComplete good) := Laws.noWordSpells _
theorem Laws.NoWordSpells.leaseTimerExpiry :
    Laws.NoWordSpells.Statement .leaseTimerExpiry := Laws.noWordSpells _
theorem Laws.NoWordSpells.settleTimerExpiry :
    Laws.NoWordSpells.Statement .settleTimerExpiry := Laws.noWordSpells _

end Sys2Proof
end

