-- ==== Sys2Proof/WellFormed.lean ====
section
/-! DEFINITION. Which commands the links and the module bus can carry: the sizes of operands that fit a
frame, and the fields of replies that the manual's forms can hold. Every command, well formed or not, has
a meaning. -/

namespace Sys2Proof

/-- An unsigned operand fits a field of four bytes. -/
def natFits (n : Nat) : Bool := n < 2 ^ 32

/-- A signed operand fits a field of four bytes. -/
def intFits (n : Int) : Bool := decide (-(2 : Int) ^ 31 ≤ n) && decide (n < (2 : Int) ^ 31)

/-- Characters or items that fit the 248 operand bytes of a request frame (section 10.1). -/
def itemsFit {α : Type} (l : List α) : Bool := l.length ≤ 248

/-- An optional index of a request. -/
def optionFits (n : Option Nat) : Bool := n.all natFits

/-- A position of REQUALIFY as carried. -/
def positionFits : PositionName → Bool
  | .slotNumber n | .bayNumber n | .trayNumber n => natFits n
  | .cp _ | .other => true

/-- A member as carried. -/
def memberFits : RawMember → Bool
  | .port n => natFits n
  | .node _ | .other => true

/-- Breakpoints that fit a frame, each of fields that fit. -/
def pointsFit (l : List Breakpoint) : Bool :=
  l.length ≤ 124 && l.all fun b => intFits b.temp && intFits b.duty

def targetFits : AlarmTarget → Bool
  | .point n => natFits n
  | .all => true

/-- A bytes sequence that is discarded fails a test of R173. -/
def frameFails (bytes : List Byte) : Bool := !Machine.frameGood bytes

/-- An identity record has at least its kind, its serial and its check word (section 1.3). -/
def identityFits (r : IdentityReply) : Bool := 4 ≤ r.words.length

/-- A poll reply's fault code is none or 1 to 255 (R9), and its numbers fit. -/
def pollFits : PollReply → Bool
  | .blade r => r.fault ≠ some 0 && natFits r.draw && (r.sensor1.all intFits && r.sensor2.all intFits)
  | .cp t => t.all intFits
  | .supply _ _ inlet watts limit => intFits inlet && natFits watts && optionFits limit
  | .tray a b c => natFits a && natFits b && natFits c

/-- The checks, command by command. -/
def Instr.wellFormed : Instr → Bool
  | .powerOnReset _ => true
  | .warmRestart _ _ => true
  | .sectionLoadComplete _ _ => true
  | .endOfStarting => true
  | .linkUp _ => true
  | .linkReset _ _ => true
  | .frameDiscarded _ bytes => frameFails bytes
  | .unknownRequest _ _ => true
  | .getStatus _ => true
  | .resetLink _ => true
  | .restartPart _ => true
  | .setCursor _ _ start _ => natFits start
  | .readCursor _ n => natFits n
  | .requalify _ pos => positionFits pos
  | .setAutoPower _ slot _ => natFits slot
  | .powerSlotOn _ slot => natFits slot
  | .powerSlotOff _ slot => natFits slot
  | .clearSticky _ => true
  | .readLedger _ => true
  | .setRedundancyPolicy _ _ => true
  | .setGraceTime _ seconds => natFits seconds
  | .setHeadroomWarning _ percent => natFits percent
  | .setReportScale _ _ => true
  | .setShedPriority _ slots => itemsFit slots && slots.all natFits
  | .setAutoRestore _ _ => true
  | .setFanCurve _ points => pointsFit points
  | .setHysteresis _ value => intFits value
  | .setTrayMinimum _ duty => intFits duty
  | .setTemperatureThresholds _ w c d => intFits w && intFits c && intFits d
  | .readCooling _ => true
  | .installLicence _ _ => true
  | .removeLicence _ _ => true
  | .releasePortUnit _ port => natFits port
  | .setParkTime _ seconds => natFits seconds
  | .readLicencePool _ => true
  | .enablePorts _ first last => natFits first && natFits last
  | .disablePorts _ first last => natFits first && natFits last
  | .openTransaction _ => true
  | .createZone _ name => itemsFit name
  | .renameZone _ zone name => natFits zone && itemsFit name
  | .deleteZone _ zone => natFits zone
  | .addMember _ zone m => natFits zone && memberFits m
  | .removeMember _ zone m => natFits zone && memberFits m
  | .createConfiguration _ name zone => itemsFit name && natFits zone
  | .deleteConfiguration _ cfg => natFits cfg
  | .addZoneToConfiguration _ cfg zone => natFits cfg && natFits zone
  | .removeZoneFromConfiguration _ cfg zone => natFits cfg && natFits zone
  | .selectActiveConfiguration _ cfg => optionFits cfg
  | .setDefaultAccess _ _ => true
  | .abortTransaction _ => true
  | .readZoning _ => true
  | .commit _ => true
  | .claimActive _ => true
  | .renew _ => true
  | .declareStandby _ _ => true
  | .yieldActive _ => true
  | .releaseActive _ => true
  | .setLeaseTime _ ms => natFits ms
  | .setHold _ _ => true
  | .releaseHold _ _ => true
  | .readRoles _ => true
  | .acknowledgeAlarm _ target => targetFits target
  | .cutOffAudible _ => true
  | .readAlarmSummary _ => true
  | .fetchEvents _ n => natFits n
  | .setEventMask _ _ => true
  | .setQueueDepth _ depth => natFits depth
  | .readEventQueue _ => true
  | .presenceInputChange _ _ => true
  | .debounceTimerExpiry _ => true
  | .identityReadReply _ reply => identityFits reply
  | .identityReadTimeout => true
  | .statusPollReply _ reply => pollFits reply
  | .statusPollTimeout => true
  | .pollTimerExpiry _ => true
  | .readyTimerExpiry _ => true
  | .powerEnableReply _ => true
  | .portEnableReply _ => true
  | .portDisableReply _ => true
  | .bladeCommandTimeout => true
  | .untakenReply _ => true
  | .pushReply _ _ => true
  | .pushTimeout => true
  | .repushTimerExpiry _ => true
  | .graceTimerExpiry => true
  | .restoreTimerExpiry => true
  | .updateTimerExpiry _ => true
  | .uptimeMinuteTimerExpiry => true
  | .parkTimerExpiry _ => true
  | .validationComplete => true
  | .storeWriteStart => true
  | .storeWriteComplete _ => true
  | .leaseTimerExpiry => true
  | .settleTimerExpiry => true

/-- A command the links and the module bus can carry. -/
def Instr.WellFormed (i : Instr) : Prop := i.wellFormed = true

end Sys2Proof
end

