-- ==== Sys2Proof/Tests/Slice0.lean ====
section
/-! SUPPORT. The writer's own tests: the checks of WellFormed refusing ill-formed commands, the two check
computations, steps with results worked out in the manual, and for every statement with hypotheses a
concrete state and operands that meet them, clause by clause. -/

namespace Sys2Proof.Tests
open Sys2Proof Sys2Proof.Machine

-- One theorem after the other: side by side they hold one kernel thread each, more than the memory takes.
set_option Elab.async false

/-! ## Small states -/

/-- Link A holds the active role at epoch 7; the part is RUNNING with every link UP and nothing fitted. -/
def running : State :=
  { State.reset with
    dev := ⟨.running, .powerOn, 0, 77, true, none⟩
    links := fill 3 (Link.atStart true)
    arbiter := { Arbiter.atStart 7 with
      standing := #v[⟨.active, false⟩, ⟨.detached, false⟩]
      holder := some .ctlA
      leaseTimer := some 3000
      settle := .expired } }

/-- A frame of link A with the current epoch. -/
def onA : Header := ⟨.linkA, 1, 7, true⟩
/-- A frame of link B with the current epoch. -/
def onB : Header := ⟨.linkB, 2, 7, true⟩
/-- A frame of the service link with the current epoch. -/
def onService : Header := ⟨.service, 3, 7, true⟩

/-- The state a command leaves. -/
def after (i : Instr) (s : State) : State :=
  match exec i s with
  | .next t => t
  | _ => s

/-- Status and results answered on a link. -/
def answer (l : LinkId) (i : Instr) (s : State) : Option (Status × Results) :=
  ((after i s).linkAt l).response.map fun r => (r.status, r.results)

/-- Status answered on link A. -/
def status (i : Instr) (s : State) : Option Status := (answer .linkA i s).map (·.1)

/-! ## WellFormed refuses an ill-formed command of each kind -/

theorem test_wf_nat : (Instr.setGraceTime onA (2 ^ 32)).wellFormed = false := by decide
theorem test_wf_int : (Instr.setHysteresis onA (2 ^ 31)).wellFormed = false := by decide
theorem test_wf_items : (Instr.createZone onA (List.replicate 249 0x41)).wellFormed = false := by
  decide +kernel
theorem test_wf_option : (Instr.selectActiveConfiguration onA (some (2 ^ 32))).wellFormed = false := by
  decide
theorem test_wf_position : (Instr.requalify onA (.bayNumber (2 ^ 32))).wellFormed = false := by decide
theorem test_wf_member : (Instr.addMember onA 0 (.port (2 ^ 32))).wellFormed = false := by decide
theorem test_wf_points : (Instr.setFanCurve onA [⟨-(2 ^ 31) - 1, 0⟩]).wellFormed = false := by decide
theorem test_wf_target : (Instr.acknowledgeAlarm onA (.point (2 ^ 32))).wellFormed = false := by decide
theorem test_wf_frame :
    (Instr.frameDiscarded .linkA (requestFrame 1 2 7 [])).wellFormed = false := by decide +kernel
theorem test_wf_identity :
    (Instr.identityReadReply (.bay 0) ⟨some .powerSupply, [0, 0, 0]⟩).wellFormed = false := by decide
theorem test_wf_poll :
    (Instr.statusPollReply (.slot 0) (.blade ⟨true, some 0, none, none, none, 0⟩)).wellFormed = false := by
  decide
theorem test_wf_good : (Instr.setGraceTime onA 60).wellFormed = true := by decide

/-! ## The check computations -/

/-- The characters "123456789". -/
def nine : List Byte := [0x31, 0x32, 0x33, 0x34, 0x35, 0x36, 0x37, 0x38, 0x39]

/-- R73 gives FC891918. -/
theorem test_crc32 : crc32 nine = 0xFC891918 := by decide +kernel
/-- R173 gives 29B1. -/
theorem test_crc16 : crc16 nine = 0x29B1 := by decide +kernel
/-- A frame laid out by section 10.1 passes the tests of R173. -/
theorem test_frame_good : frameGood (requestFrame 1 2 7 [0xAA]) = true := by decide +kernel

/-! ## Helpers of the witnesses -/

/-- The test of `State.Passes`, computed. -/
def ready (r : Right) (h : Header) (s : State) : Bool :=
  (s.linkAt h.link).up && decide ((s.linkAt h.link).outstanding = none) &&
    decide (s.dev.phase = .running) && h.sized &&
    (!Right.epochChecked r || decide (h.epoch = s.arbiter.epoch)) && s.holdsRight r h.link

theorem passes_of_ready {r : Right} {h : Header} {s : State} (k : ready r h s = true) : s.Passes r h := by
  simp only [ready, Bool.and_eq_true, decide_eq_true_eq, Bool.or_eq_true, Bool.not_eq_true'] at k
  obtain ⟨⟨⟨⟨⟨a, b⟩, c⟩, d⟩, e⟩, f⟩ := k
  refine ⟨a, b, c, d, fun g => ?_, f⟩
  rcases e with e | e
  · simp [g] at e
  · exact e

/-- Whether an outcome is a next state. -/
def goesOn : Host.Outcome State Fault Refusal → Bool
  | .next _ => true
  | _ => false

theorem exists_of_goesOn {o : Host.Outcome State Fault Refusal} (h : goesOn o = true) :
    ∃ t, o = .next t := by
  cases o with
  | next t => exact ⟨t, rfl⟩
  | fault r => cases h
  | refused r => cases h

/-- `running` with one command waiting. -/
def waiting (i : Instr) : State := { running with pending := [i] }

/-- A blade of 32 ports and 260 W. -/
def blade : BladeIdentity := ⟨100, 32, 16, 260, 6, 1024⟩

/-- A state with slot 1 in a given state, its blade's identity known. -/
def withSlot (st : SlotState) (s : State) : State :=
  { s with slots := put s.slots 0 { SlotEntry.atStart with state := st, identity := some blade } }

/-- `running` with slot 1 in a given state. -/
def slotIn (st : SlotState) : State := withSlot st running

/-- `running` with headroom, the rest of the ledger as it is. -/
def headroomIs (n : Int) (s : State) : State := { s with ledger := { s.ledger with headroom := n } }

/-- `running` with a transaction of the module bus running. -/
def onBus (x : Txn) (s : State) : State := { s with bus := ⟨[], some ⟨x, 5, none, false⟩⟩ }

/-! ## Witnesses: the machine as a whole -/

/-- The lease of the holder has run out, and its expiry waits. -/
def atExpiry : State := { running with pending := [.leaseTimerExpiry] }

theorem atExpiry_goes_on : ∃ t, step atExpiry = .next t := exists_of_goesOn (by decide +kernel)

theorem witness_StepTakesTheFrontCommand : atExpiry.pending = .leaseTimerExpiry :: [] := rfl

/-- `running` with the settle, lease, zone L's update and slot 1's ready timer at `n`. -/
def timersAt (n : Nat) : State :=
  { running with
    arbiter := { running.arbiter with leaseTimer := some n, settle := .running n }
    cooling := { running.cooling with
      zones := put running.cooling.zones 0 { ZoneCtl.atStart 100 with updateTimer := some n } }
    aux := put running.aux 0 { SlotAux.atStart with readyTimer := some n } }

theorem witness_IdleStepQueuesWhatIsDueOrPassesTime :
    (timersAt 1).pending = [] ∧ (timersAt 1).due = [] ∧ (timersAt 1).tick.pending = [] ∧
      ((timersAt 1).tick.auxAt 0).readyTimer = some 0 ∧
      (timersAt 0).pending = [] ∧
      (timersAt 0).due =
        [.readyTimerExpiry 0, .updateTimerExpiry .zoneL, .leaseTimerExpiry, .settleTimerExpiry] ∧
      (timersAt 0).tick.pending = [.readyTimerExpiry 0] := by
  decide +kernel

/-- R48: the expiry of a restore timer that an event has started again in the same instant is never queued. -/
theorem test_restarted_timer_is_not_due :
    let s : State := { running with ledger := { running.ledger with restoreTimer := some 0 } }
    s.due = [.restoreTimerExpiry] ∧
    State.due { s with ledger := { s.ledger with restoreTimer := some 10000 } } = [] := by
  decide +kernel

theorem witness_EveryStepCompletes : State.reset.agenda = [] ∧ atExpiry.agenda = [] := ⟨rfl, rfl⟩

/-- `atExpiry` with a transaction of the holder open. -/
def atExpiryOpen : State :=
  { atExpiry with zoning := { atExpiry.zoning with txn := some ⟨.ctlA, 7, 0, ZoneDb.empty⟩ } }

theorem witness_RoleLawIsKept : atExpiryOpen.RoleLaw ∧ atExpiryOpen.zoning.txn ≠ none ∧
    ∃ t, step atExpiryOpen = .next t :=
  ⟨⟨fun c => by cases c <;> simp [atExpiryOpen, atExpiry, running, State.standingOf, look, Ctl.idx], rfl,
    fun x h => by cases h; rfl⟩, by decide +kernel, exists_of_goesOn (by decide +kernel)⟩

theorem witness_QueueLawIsKept : atExpiry.QueueLaw ∧ atExpiry.LinkLaw ∧ ∃ t, step atExpiry = .next t := by
  refine ⟨⟨fun l => ?_, by decide +kernel⟩, ⟨fun l => ?_, fun l => ?_, fun c => ?_⟩, atExpiry_goes_on⟩
  · cases l <;> (unfold EventQueue.Law; decide +kernel)
  · cases l <;> decide +kernel
  · cases l <;> decide +kernel
  · cases c <;> decide +kernel

theorem witness_RelayLawIsKept : atExpiry.RelayLaw ∧ ∃ t, step atExpiry = .next t :=
  ⟨by unfold State.RelayLaw; decide +kernel, atExpiry_goes_on⟩

theorem witness_BusLawIsKept : atExpiry.BusLaw ∧ ∃ t, step atExpiry = .next t :=
  ⟨by unfold State.BusLaw; decide +kernel, atExpiry_goes_on⟩

theorem running_settings : running.SettingsLaw := by
  refine ⟨by unfold Settings.Law; decide +kernel, fun c h => ?_, fun w c h => ?_⟩ <;> cases h

theorem running_cooling : running.CoolingLaw := by
  refine ⟨by decide +kernel, fun z => by cases z <;> decide +kernel, fun _ => by decide +kernel⟩

theorem witness_SettingsAndDutiesStayInRange :
    atExpiry.SettingsLaw ∧ atExpiry.CoolingLaw ∧ ∃ t, step atExpiry = .next t :=
  ⟨running_settings, running_cooling, atExpiry_goes_on⟩

/-- Slot 1 POWERED and CURRENT in a zone at 20 degrees, its first port up, and the lease's expiry waiting. -/
def serving : State :=
  { atExpiry with
    slots := put running.slots 0
      { SlotEntry.atStart with state := .powered, identity := some blade, enforcement := .current }
    aux := put running.aux 0 { SlotAux.atStart with line := true, powered := true, admits := true }
    rows := put running.rows 0 (put (fill 48 Row.atStart) 0 ⟨true, .base, .none, true, .up⟩)
    ledger := { running.ledger with charged := put (fill 8 false) 0 true } }

theorem serving_ledger : serving.LedgerLaw := by unfold State.LedgerLaw; decide +kernel

theorem witness_LedgerLawIsKept : serving.LedgerLaw ∧ serving.ShutdownLaw ∧ serving.agenda = [] ∧
    (serving.slotAt 0).state = .powered ∧ ∃ t, step serving = .next t :=
  ⟨serving_ledger, by unfold State.ShutdownLaw; decide +kernel, rfl, by decide +kernel,
    exists_of_goesOn (by decide +kernel)⟩

theorem serving_inputs : ∀ sl, serving.SlotInputs sl := by
  have h : ∀ sl, ((serving.auxAt sl).powered = true ↔ (serving.slotAt sl).state = .powered) ∧
      ((serving.auxAt sl).admits = true ↔
        (serving.slotAt sl).enforcement = .current ∨ (serving.slotAt sl).enforcement = .previous) ∧
      ((serving.slotAt sl).state ≠ .powered → (serving.slotAt sl).enforcement = .none) ∧
      (serving.slotAt sl).enforcement ≠ .previous := by decide +kernel
  exact fun sl => ⟨(h sl).1, (h sl).2.1, (h sl).2.2.1, fun e => absurd e (h sl).2.2.2⟩

theorem serving_rows : ∀ p, serving.RowLaw p := by
  have h : ∀ sl : Slot, ∀ k : Fin 48,
      ((serving.rowAt ⟨sl, k⟩).cond = .up ∨ (serving.rowAt ⟨sl, k⟩).cond = .enabling →
        serving.dev.phase = .running ∧ (serving.slotAt sl).state = .powered ∧
          (serving.auxAt sl).admits = true ∧ (serving.rowAt ⟨sl, k⟩).admin = true ∧
          (serving.rowAt ⟨sl, k⟩).cls = .base) ∧
      (serving.rowAt ⟨sl, k⟩).grant = RowCond.live (serving.rowAt ⟨sl, k⟩).cond ∧
      ((serving.rowAt ⟨sl, k⟩).cond = .nonexistent ↔ (serving.rowAt ⟨sl, k⟩).cls = .nonexistent) ∧
      (serving.rowAt ⟨sl, k⟩).cond ≠ .adopted := by decide +kernel
  intro ⟨sl, k⟩
  obtain ⟨a, b, c, d⟩ := h sl k
  exact ⟨fun e => let ⟨u, v, w, x, y⟩ := a e; ⟨u, v, w, x, .inl y⟩, b, c, fun e => absurd e d⟩

theorem witness_PoolLawIsKept : serving.PoolLaw ∧ serving.LedgerLaw ∧ serving.PortLaw ∧
    (serving.rowAt ⟨0, 0⟩).cond = .up ∧ ∃ t, step serving = .next t :=
  ⟨by unfold State.PoolLaw; decide +kernel, serving_ledger,
    ⟨serving_inputs, serving_rows, fun h => absurd rfl h⟩, by decide +kernel,
    exists_of_goesOn (by decide +kernel)⟩

theorem empty_limits : ZoneDb.empty.Limits := by
  constructor
  case totalLimit => decide +kernel
  all_goals simp [ZoneDb.empty]

theorem witness_DatabasesStayWithinLimits : atExpiry.ZoningLaw ∧ ∃ t, step atExpiry = .next t := by
  refine ⟨⟨empty_limits, fun t h => ?_, fun z h => ?_, fun w z h => ?_⟩, atExpiry_goes_on⟩ <;> cases h

/-! ## Witnesses: requests, links and cursors -/

/-- `running` with a request outstanding on link A. -/
def busyLink (k : OutstandingKind) : State :=
  { running with links := put running.links 0 { Link.atStart true with outstanding := some ⟨9, k⟩ } }

/-- State.reset with link A UP: STARTING. -/
def starting : State := { State.reset with links := fill 3 (Link.atStart true) }

theorem witness_RefusedRequestOnlyAnswers :
    requestOf (.renew onB) = some (onB, .keep, false) ∧ running.agenda = [] ∧
      (running.linkAt .linkB).up = true ∧
      running.refusal .keep false onB = some (.notActive, .roles 7 (some .ctlA)) ∧
      (State.reset.linkAt .linkB).up = false := by decide +kernel

theorem witness_RequestTestsFollowTheTables :
    ((busyLink .commit).linkAt .linkA).outstanding ≠ none ∧
    (busyLink .commit).refusal .read true onA = some (.linkBusy, .none) ∧
    (starting.linkAt .linkA).outstanding = none ∧ starting.dev.phase = .starting ∧
    starting.refusal .read false onA = some (.starting, .none) ∧
    starting.refusal .read true onA = none ∧
    running.refusal .read false { onA with sized := false } = some (.invalid, .none) ∧
    running.refusal .licence false { onA with epoch := 6 } =
      some (.staleEpoch, .roles 7 (some .ctlA)) ∧
    running.holdsRight .configure .linkA = true ∧
    running.holdsRight .configure .service = false ∧
    running.refusal .configure false onService = some (.denied, .none) ∧
    running.refusal .release false onA = some (.denied, .none) ∧
    (running.standingOf .ctlA).role = .active ∧ (running.standingOf .ctlB).role ≠ .active := by
  decide +kernel

theorem running_passes : running.Passes .read onA ∧ running.Passes .configure onA ∧
    running.Passes .licence onService ∧ running.Passes .alarm onA ∧ running.Passes .hold onB ∧
    running.Passes .claim onB ∧ running.Passes .keep onA ∧ running.Passes .release onService ∧
    running.Passes .restart onA :=
  ⟨passes_of_ready (by decide +kernel), passes_of_ready (by decide +kernel),
    passes_of_ready (by decide +kernel), passes_of_ready (by decide +kernel),
    passes_of_ready (by decide +kernel), passes_of_ready (by decide +kernel),
    passes_of_ready (by decide +kernel), passes_of_ready (by decide +kernel),
    passes_of_ready (by decide +kernel)⟩

theorem witness_ReadsAnswerAndChangeNothing : running.Passes .read onA ∧
    (running.linkAt .linkA).up = true ∧ (running.linkAt .linkA).outstanding = none ∧
    status (.readLedger onA) running = some .ok ∧ status (.getStatus onA) starting = some .ok :=
  ⟨running_passes.1, by decide +kernel⟩

/-- `running` after link A has gone DOWN and an event has been queued for it. -/
def fallen : State := (after (.linkReset .linkA .down) running).report .alarmChange 0 0 0

theorem witness_LinkInterfaceEvents : running.Passes .read onA ∧ running.Passes .restart onA ∧
    (running.linkAt .linkA).up = true ∧ frameGood [0, 8, 1, 2] = false ∧
    status (.unknownRequest onA 0xEE) running = some .unknownRequest ∧
    status (.unknownRequest onA 0xEE) (busyLink .commit) = some .linkBusy ∧
    (State.reset.linkAt .linkA).up = false ∧ (State.reset.linkAt .linkA).fell = false ∧
    (fallen.linkAt .linkA).up = false ∧ (fallen.linkAt .linkA).fell = true :=
  ⟨running_passes.1, running_passes.2.2.2.2.2.2.2.2, by decide +kernel⟩

/-- The law of the links holds of a state with a link that has gone DOWN. -/
theorem fallen_links : fallen.LinkLaw := by
  refine ⟨fun l => ?_, fun l => ?_, fun c => ?_⟩
  · cases l <;> decide +kernel
  · cases l <;> decide +kernel
  · cases c <;> decide +kernel

/-- R168, R171 and R175: a link that comes UP for the first time since a start finds the records queued meanwhile;
one that comes UP again does by a free value. -/
theorem test_link_up_queue :
    (fallen.queueAt .linkA).records ≠ [] ∧
    ((after (.linkUp .linkA) fallen).queueAt .linkA).records =
      (if Config.emptiesWhenUpAgain then [] else (fallen.queueAt .linkA).records) ∧
    ((after (.linkUp .linkA) (State.reset.report .alarmChange 0 0 0)).queueAt .linkA).records ≠ [] := by
  refine ⟨by decide +kernel, ?_, by decide +kernel⟩
  unfold after
  simp only [exec, execLinkUp]
  generalize Config.emptiesWhenUpAgain = b
  cases b <;> decide +kernel

theorem witness_LinkResetClearsTheLink : running.agenda = [] ∧ (running.linkAt .linkA).up = true ∧
    ((busyLink .resetLink).linkAt .linkA).outstanding = some ⟨9, .resetLink⟩ ∧
    running.arbiter.holder = some .ctlA ∧ LinkId.linkA = Ctl.ctlA.link ∧
    running.arbiter.holder ≠ some .ctlB ∧
    (after (.linkReset .linkA .down) running).arbiter = running.endedArbiter .ctlA .detached ∧
    ((after (.linkReset .linkA .responseSent) (busyLink .resetLink)).linkAt .linkA).up = true := by
  decide +kernel

/-- `running` with a cursor of link A on a table. -/
def cursorOn (tb : Table) (pos : Int) (d : Direction) : State :=
  { running with
    links := put running.links 0 { Link.atStart true with cursor := some (running.cursorAt tb pos d) } }

theorem witness_CursorsPrefetchAndMove : running.Passes .read onA ∧
    (cursorOn .slot 9 .up).Passes .read onA ∧
    running.entryCount .zoneStaged = none ∧ running.entryCount .slot = some 10 ∧
    status (.setCursor onA (some .slot) 9 (some .up)) running = some .ok ∧
    status (.setCursor onA (some .slot) 10 (some .up)) running = some .atEnd ∧
    status (.setCursor onA (some .zoneStaged) 0 (some .up)) running = some .noTransaction ∧
    status (.setCursor onA none 0 (some .up)) running = some .invalid ∧
    status (.setCursor onA (some .slot) 0 none) running = some .invalid ∧
    status (.readCursor onA 0) (cursorOn .slot 9 .up) = some .invalid ∧
    status (.readCursor onA 9) (cursorOn .slot 9 .up) = some .invalid ∧
    status (.readCursor onA 1) running = some .notFound ∧
    status (.readCursor onA 8) (cursorOn .zoneStaged 0 .up) = some .noTransaction ∧
    (running.cursorAt .slot 10 .up).copy = none ∧
    status (.readCursor onA 1) (cursorOn .slot 10 .up) = some .atEnd ∧
    status (.readCursor onA 1) (cursorOn .slot (-1) .down) = some .atEnd ∧
    (running.cursorAt .slot 9 .up).copy = some (.cp CpEntry.atStart) ∧
    answer .linkA (.readCursor onA 8) (cursorOn .slot 9 .up) =
      some (.ok, .entries [(.cp CpEntry.atStart, false)]) :=
  ⟨running_passes.1, passes_of_ready (by decide +kernel), by decide +kernel⟩

/-! ## Witnesses: starts -/

/-- A duty applied to tray 2 outlasts a warm restart as the demand of zone L (R71). -/
theorem witness_WarmRestartHoldsTheOutputs_duty :
    (let s : State := { running with trays := put (fill 4 (TrayEntry.atStart 40)) 1 (TrayEntry.atStart 70) }
     max (s.trayAt 0).duty (s.trayAt 1).duty = 70 ∧ max (s.trayAt 2).duty (s.trayAt 3).duty = 40 ∧
      ((after (.warmRestart .line none) s).zoneAt .zoneL).demand = 70 ∧
      ((after (.warmRestart .line none) s).trayAt 3).duty = 100) := by decide +kernel

theorem witness_WarmRestartHoldsTheOutputs :
    ((busyLink .restartPart).linkAt .linkA).outstanding = some ⟨9, .restartPart⟩ ∧
    (let s : State := { slotIn .powered with
        aux := put running.aux 0 { SlotAux.atStart with line := true } }
     (s.auxAt 0).line = true ∧ (s.auxAt 0).held = none ∧ (s.slotAt 0).identity = some blade ∧
      ((after (.warmRestart .line none) s).auxAt 0).held = some ⟨100, 32, fill 48 false⟩) ∧
    (let s : State := { State.reset with
        aux := put running.aux 0 { SlotAux.atStart with line := true, held := some ⟨5, 16, fill 48 true⟩ } }
     (s.auxAt 0).line = true ∧ (s.auxAt 0).held ≠ none ∧
      ((after (.warmRestart .line none) s).auxAt 0).held = some ⟨5, 16, fill 48 true⟩) := by
  decide +kernel

/-- STARTING with a stored image of the defaults. -/
def stored : State :=
  { State.reset with
    store := { State.reset.store with
      config := some ⟨Settings.default, fill 8 true, fill 8 (fill 48 true)⟩
      licences := some []
      zoning := some ⟨ZoneDb.empty, 4⟩ } }

/-- `stored` with its first sections loaded. -/
def loadedTo (n : Nat) : State :=
  { stored with store := { stored.store with
      loaded := if n = 1 then #v[.good, .waiting, .waiting] else #v[.good, .good, .waiting] } }

theorem witness_SectionLoadsReachTheirBlocks :
    stored.dev.phase = .starting ∧ stored.nextSection = some .config ∧
    stored.store.config.isSome = true ∧ (loadedTo 1).nextSection = some .licences ∧
    (loadedTo 1).store.licences = some [] ∧ (loadedTo 2).nextSection = some .zoning ∧
    (loadedTo 2).store.zoning.isSome = true ∧ stored.agenda = [] ∧
    State.reset.nextSection = some .config ∧ State.reset.store.config = none ∧
    look (after (.sectionLoadComplete .config true) State.reset).store.loaded 0 = .failed := by
  decide +kernel

/-- STARTING after a warm restart: slot 1's blade adopted at generation 4 with ports 1 and 17 held, port 17's
claim on the list beside one of the empty slot 2, a unit to give, the ZONING section failed, and conditions
recorded. -/
def adopted : State :=
  { withSlot .powered State.reset with
    aux := put State.reset.aux 0 { SlotAux.atStart with
      line := true, powered := true, admits := true, kept := some (some 4) }
    rows := put State.reset.rows 0 (Vector.ofFn fun k =>
      if k = 0 then ⟨true, .base, .none, true, .adopted⟩
      else if k = 16 then ⟨true, .pool, .none, true, .adopted⟩
      else ⟨true, .pool, .none, false, .down .adminDown⟩)
    pool := { State.reset.pool with
      table := [⟨⟨5, 1, 1, 0, 77, 0⟩, false⟩], capacity := 1, claims := [⟨0, 16⟩, ⟨1, 3⟩] }
    store := { State.reset.store with loaded := #v[.good, .good, .failed] }
    alarms := { AlarmUnit.atPowerOn with recording := true, recorded := put (fill 57 false) 56 true } }

theorem witness_EndOfStartingRunsTheDevice :
    State.reset.dev.phase = .starting ∧ adopted.dev.phase = .starting ∧
    look (loadedTo 2).store.loaded 2 ≠ .good ∧ look adopted.store.loaded 2 ≠ .good ∧
    (∀ sl, (State.reset.auxAt sl).kept = none) ∧ (adopted.auxAt 0).kept = some (some 4) ∧
    (∀ k x, (adopted.auxAt k).kept = some (some x) → x ≤ 4) ∧
    State.reset.failUnloaded.fixGeneration.zoning.activeGen = 1 ∧
    adopted.fixGeneration.zoning.activeGen = 5 ∧
    adopted.alarms.recording = true ∧ adopted.ledger.overcommit = .closed ∧
    look ({ stored with store := { stored.store with loaded := fill 3 .good } } : State).store.loaded 2 =
      .good := by
  refine ⟨by decide +kernel, by decide +kernel, by decide +kernel, by decide +kernel, by decide +kernel,
    by decide +kernel, fun k x h => ?_, by decide +kernel⟩
  rcases Classical.em (k = 0) with e | e
  · subst e
    have : (adopted.auxAt 0).kept = some (some 4) := by decide +kernel
    rw [this] at h
    cases h
    exact Nat.le_refl _
  · have : ∀ i : Slot, i ≠ 0 → (adopted.auxAt i).kept = none := by decide +kernel
    rw [this k e] at h
    cases h

theorem witness_EndOfStartingRunsTheDevice_claims : adopted.pool.claims.Nodup ∧
    (∀ p ∈ adopted.pool.claims, (adopted.rowAt p).unit = .none) ∧
    ((adopted.pool.claims.foldl State.settleClaim adopted).rowAt ⟨0, 16⟩).unit = .assigned ∧
    (adopted.rowAt ⟨0, 0⟩).cond = .adopted ∧ adopted.firstFail ⟨0, 0⟩ = none ∧
    judgedCond adopted ⟨0, 0⟩ = .up ∧ judgedCond adopted ⟨0, 16⟩ = .down .unlicensed := by
  decide +kernel

/-! ## Witnesses: inventory requests and blade power -/

theorem witness_RequalifyStartsTheHandshake : (slotIn .rejected).Passes .configure onA ∧
    (slotIn .rejected).agenda = [] ∧ ((slotIn .rejected).slotAt 0).state = .rejected ∧
    positionOf (.slotNumber 0) = none ∧ positionOf (.slotNumber 9) = none ∧
    positionOf (.bayNumber 5) = none ∧ positionOf (.slotNumber 1) = some (.slot 0) ∧
    positionOf (.slotNumber 8) = some (.slot 7) ∧ positionOf (.bayNumber 4) = some (.bay 3) ∧
    (slotIn .empty).requalifyRefusal (.slot 0) = some .notFound ∧
    (slotIn .qualifying).requalifyRefusal (.slot 0) = some .busy ∧
    (slotIn .powered).requalifyRefusal (.slot 0) = some .inUse ∧
    (let s : State := { running with
        cps := put running.cps 1 { CpEntry.atStart with state := .rejected }
        bays := put running.bays 3 { BayEntry.atStart with state := .rejected }
        trays := put running.trays 0 { TrayEntry.atStart 100 with state := .rejected } }
     (s.cpAt .cpB).state = .rejected ∧ (s.bayAt 3).state = .rejected ∧
      (s.trayAt 0).state = .rejected ∧ s.requalifyRefusal (.cp .cpA) = some .notFound ∧
      s.requalifyRefusal (.bay 0) = some .notFound ∧ s.requalifyRefusal (.tray 3) = some .notFound) ∧
    (let s : State := { running with
        cps := #v[{ CpEntry.atStart with state := .qualifying }, { CpEntry.atStart with state := .present }]
        bays := put (fill 4 { BayEntry.atStart with state := .qualifying }) 3
          { BayEntry.atStart with state := .standby }
        trays := put (fill 4 { TrayEntry.atStart 100 with state := .qualifying }) 3
          { TrayEntry.atStart 100 with state := .failed } }
     s.requalifyRefusal (.cp .cpA) = some .busy ∧ s.requalifyRefusal (.cp .cpB) = some .inUse ∧
      s.requalifyRefusal (.bay 0) = some .busy ∧ s.requalifyRefusal (.bay 3) = some .inUse ∧
      s.requalifyRefusal (.tray 0) = some .busy ∧ s.requalifyRefusal (.tray 3) = some .inUse) ∧
    status (.requalify onA (.slotNumber 1)) (slotIn .rejected) = some .ok ∧
    status (.requalify onA (.slotNumber 9)) running = some .invalid :=
  ⟨passes_of_ready (by decide +kernel), by decide +kernel⟩

theorem witness_SetAutoPowerSetsTheFlag : running.Passes .configure onA ∧
    status (.setAutoPower onA 0 true) running = some .invalid ∧
    status (.setAutoPower onA 9 true) running = some .invalid ∧
    status (.setAutoPower onA 1 false) running = some .ok ∧
    status (.setAutoPower onA 8 true) running = some .ok ∧ 8 = (7 : Slot).val + 1 :=
  ⟨running_passes.2.1, by decide +kernel⟩

/-- Slot 1 OFF with its blade, and headroom for it to the quarter watt: 260 W are 1040 qW. -/
def offWith (n : Int) : State := headroomIs n (slotIn .off)

/-- Slot 1 OFF beside two supplies of 2500 W at 44 degrees. -/
def offSupplied : State :=
  let bay : BayEntry := ⟨.online, none, false, 0, some ⟨9, 2500, 1500⟩, some ⟨.on, .high, 88, 400, none⟩⟩
  { slotIn .off with bays := #v[bay, bay, BayEntry.atStart, BayEntry.atStart] }

/-- The same with the ledger as a recompute of these inputs leaves it. -/
def offFresh : State := { offSupplied with ledger := offSupplied.ledgerStages }

theorem witness_PowerSlotOnAdmitsOrRefuses_fresh : offFresh.Passes .configure onA ∧
    offFresh.ledgerStages = offFresh.ledger ∧ (offFresh.zoneAt (zoneOfSlot 0)).temp ≠ .shutdown ∧
    offFresh.ledger.overcommit = .closed ∧
    0 ≤ offFresh.ledger.headroom - ((offFresh.bladeOf 0).basePower : Int) * 4 ∧
    offFresh.ledger.available = 8984 ∧ ((after (.powerSlotOn onA 1) offFresh).auxAt 0).line = true :=
  ⟨passes_of_ready (by decide +kernel), by decide +kernel⟩

/-- `offFresh` with zone L in SHUTDOWN. -/
def offHot : State :=
  { offFresh with cooling := { offFresh.cooling with
      zones := put offFresh.cooling.zones 0 { offFresh.zoneAt .zoneL with temp := .shutdown } } }

theorem witness_PowerSlotOnAdmitsOrRefuses_hot : offHot.Passes .configure onA ∧
    offHot.ledgerStages = offHot.ledger ∧ (offHot.zoneAt (zoneOfSlot 0)).temp = .shutdown ∧
    look offHot.ledger.shedSet 0 = false ∧ offHot.ledger.overcommit = .closed ∧
    0 ≤ offHot.ledger.headroom - ((offHot.bladeOf 0).basePower : Int) * 4 :=
  ⟨passes_of_ready (by decide +kernel), rfl, by decide +kernel⟩

theorem witness_PowerSlotOnAdmitsOrRefuses : (offWith 1040).Passes .configure onA ∧
    (offWith 1040).agenda = [] ∧ ((offWith 1040).slotAt 0).state = .off ∧
    (offWith 1040).ledger.overcommit = .closed ∧
    0 ≤ (offWith 1040).ledger.headroom - (((offWith 1040).bladeOf 0).basePower : Int) * 4 ∧
    (offWith 1039).ledger.headroom - (((offWith 1039).bladeOf 0).basePower : Int) * 4 < 0 ∧
    status (.powerSlotOn onA 1) (offWith 1040) = some .ok ∧
    status (.powerSlotOn onA 1) (offWith 1039) = some .full ∧
    status (.powerSlotOn onA 0) running = some .invalid ∧
    status (.powerSlotOn onA 9) running = some .invalid ∧
    status (.powerSlotOn onA 8) running = some .notFound ∧
    status (.powerSlotOn onA 1) (slotIn .powered) = some .ok ∧
    status (.powerSlotOn onA 1) (slotIn .faulted) = some .busy ∧
    ((slotIn .thermalOff).slotAt 0).state = .thermalOff ∧
    (slotIn .thermalOff).belowCritClear 0 = true ∧
    (let s : State := { slotIn .thermalOff with
        cooling := { running.cooling with zones := running.cooling.zones.map fun z => { z with tz := 200 } } }
     s.belowCritClear 0 = false ∧ status (.powerSlotOn onA 1) s = some .busy) ∧
    (let s : State := { offWith 1040 with ledger := { (offWith 1040).ledger with overcommit := .grace } }
     s.ledger.overcommit ≠ .closed ∧ status (.powerSlotOn onA 1) s = some .busy) :=
  ⟨passes_of_ready (by decide +kernel), by decide +kernel⟩

theorem witness_PowerSlotOffLeavesPower : (slotIn .powered).Passes .configure onA ∧
    (slotIn .powered).agenda = [] ∧ ((slotIn .powered).slotAt 0).state = .powered ∧
    ((slotIn .shed).slotAt 0).state = .shed ∧
    status (.powerSlotOff onA 1) (slotIn .shed) = some .ok ∧
    status (.powerSlotOff onA 1) (slotIn .off) = some .ok ∧
    status (.powerSlotOff onA 0) running = some .invalid ∧
    status (.powerSlotOff onA 9) running = some .invalid ∧
    status (.powerSlotOff onA 8) running = some .notFound ∧
    status (.powerSlotOff onA 1) (slotIn .rejected) = some .busy :=
  ⟨passes_of_ready (by decide +kernel), by decide +kernel⟩

theorem witness_LeavingPowerRemovesEverything :
    ((slotIn .powered).slotAt 0).state = .powered ∧
    ¬((slotIn .off).slotAt 0).state = .powered ∧ ¬((slotIn .off).slotAt 0).state = .powering ∧
    (let s : State := { slotIn .powered with
        rows := put running.rows 0 (fill 48 { Row.atStart with cls := .base, cond := .up }) }
     (s.rowAt ⟨0, 47⟩).cond ≠ .nonexistent) := by decide +kernel

/-! ## Witnesses: power ledger -/

theorem witness_RecomputeFollowsTheInputs :
    State.reset.dev.phase = .starting ∧ running.dev.phase = .running := ⟨rfl, rfl⟩

/-- A POWERED blade, charged, with no supply: headroom −1040 qW at the recompute. -/
def short : State :=
  { slotIn .powered with ledger := { Ledger.atStart with charged := put (fill 8 false) 0 true } }

/-- The same without a grace time. -/
def shortNow : State := { short with settings := { running.settings with graceTime := 0 } }

theorem witness_ShortfallOpensAnOvercommit :
    short.dev.phase = .running ∧ short.ledger.overcommit = .closed ∧
    short.ledgerStages.headroom < 0 ∧ anySet short.ledger.charged = true ∧
    ¬(short.ledgerStages.raw < short.ledgerStages.measured) ∧ short.settings.graceTime ≠ 0 ∧
    shortNow.settings.graceTime = 0 ∧ shortNow.lowestCharged = some 0 ∧
    short.recompute.ledger.overcommit = .grace ∧
    short.recompute.ledger.graceTimer = some 10000 ∧
    shortNow.recompute.ledger.order = some 0 ∧
    (let s : State := { running with
        cps := put running.cps 0 { CpEntry.atStart with state := .present, identity := some ⟨5, 150⟩ } }
     anySet s.ledger.charged = false ∧ s.ledgerStages.headroom < 0) := by decide +kernel

theorem witness_PowerTimersExpire :
    (let s : State := { short with
        ledger := { short.ledger with overcommit := .grace, graceTimer := some 1, restoreTimer := some 1 }
        aux := put short.aux 7 { SlotAux.atStart with readyTimer := some 1 } }
     s.ledger.graceTimer ≠ none ∧ s.ledger.overcommit = .grace ∧ s.lowestCharged = some 0 ∧
      s.ledger.restoreTimer ≠ none ∧ (s.auxAt 7).readyTimer ≠ none) ∧
    running.ledger.graceTimer = none ∧ running.ledger.restoreTimer = none ∧
    (running.auxAt 0).readyTimer = none := by decide +kernel

/-- A restore pass whose slot 2 is still to be offered, slot 1 skipped: both are SHED. -/
def passing : State :=
  { running with ledger := { running.ledger with
      shedSet := #v[true, true, false, false, false, false, false, false]
      pass := some ⟨put (fill 8 false) 1 true, none⟩, headroom := 40 } }

theorem witness_PowerTimersExpire_pass :
    (∀ c, look (fill 8 false |> (put · 1 true) : Vector Bool 8) c = true →
      look passing.ledger.shedSet c = true → c = 1) ∧
    passing.ledger.pass = some ⟨put (fill 8 false) 1 true, none⟩ ∧
    (passing.leaveShed 1).ledger.pass = none ∧ (passing.leaveShed 1).ledger.passEnd = some 40 := by
  decide +kernel

theorem witness_SetPolicyRecomputes : running.Passes .configure onA ∧ running.agenda = [] ∧
    status (.setRedundancyPolicy onA none) running = some .invalid ∧
    status (.setRedundancyPolicy onA (some .nPlusN)) running = some .ok :=
  ⟨running_passes.2.1, by decide +kernel⟩

theorem witness_WarningAndScaleReDerive : running.Passes .configure onA ∧
    answer .linkA (.setHeadroomWarning onA 50) running = some (.ok, .none) ∧
    answer .linkA (.setHeadroomWarning onA 51) running = some (.adjusted, .value 50) ∧
    status (.setReportScale onA none) running = some .invalid ∧
    (let s : State := { running with ledger := { running.ledger with available := 100, headroom := 49 } }
     (after (.setHeadroomWarning onA 50) s).ledger.low = true ∧ s.ledger.low = false) :=
  ⟨running_passes.2.1, by decide +kernel⟩

theorem witness_ClearStickyTakesBothFlags : running.Passes .configure onA ∧
    running.dev.phase = .running ∧
    (let s : State := { running with
        ledger := { running.ledger with headroomLow := true, low := true, clamp := true } }
     answer .linkA (.clearSticky onA) s = some (.ok, .sticky true false)) :=
  ⟨running_passes.2.1, by decide +kernel⟩

/-- `running` with auto restore cleared. -/
def noRestore : State := { running with settings := { running.settings with autoRestore := false } }

theorem witness_SetAutoRestoreActsOnTimerAndPass :
    running.Passes .configure onA ∧ noRestore.Passes .configure onA ∧
    running.settings.autoRestore = true ∧ noRestore.settings.autoRestore = false ∧
    status (.setAutoRestore onA none) running = some .invalid ∧
    status (.setAutoRestore onA (some true)) running = some .ok ∧
    (let s : State := { noRestore with
        ledger := { Ledger.atStart with shedSet := put (fill 8 false) 0 true } }
     (after (.setAutoRestore onA (some true)) s).ledger.restoreTimer = some 10000) :=
  ⟨running_passes.2.1, passes_of_ready (by decide +kernel), by decide +kernel⟩

theorem witness_SetShedPriorityTakesPermutations : running.Passes .configure onA ∧
    (#v[7, 6, 5, 4, 3, 2, 1, 0] : Vector Slot 8).toList.map (fun i => i.val + 1) =
      [8, 7, 6, 5, 4, 3, 2, 1] ∧
    (#v[7, 6, 5, 4, 3, 2, 1, 0] : Vector Slot 8).toList.Nodup ∧
    status (.setShedPriority onA [8, 7, 6, 5, 4, 3, 2, 1]) running = some .ok ∧
    status (.setShedPriority onA [8, 7, 6, 5, 4, 3, 2, 2]) running = some .invalid ∧
    status (.setShedPriority onA [9, 7, 6, 5, 4, 3, 2, 1]) running = some .invalid ∧
    status (.setShedPriority onA [7, 6, 5, 4, 3, 2, 1]) running = some .invalid ∧
    (let s : State := { running with ledger := { running.ledger with pass := some ⟨fill 8 true, none⟩ } }
     s.ledger.pass.isSome = true) :=
  ⟨running_passes.2.1, by decide +kernel⟩

theorem witness_TimeSettingsClampAndApply : running.Passes .configure onA ∧
    answer .linkA (.setGraceTime onA 60) running = some (.ok, .none) ∧
    answer .linkA (.setGraceTime onA 61) running = some (.adjusted, .value 60) ∧
    answer .linkA (.setParkTime onA 3600) running = some (.ok, .none) ∧
    answer .linkA (.setParkTime onA 3601) running = some (.adjusted, .value 3600) ∧
    answer .linkA (.setLeaseTime onA 500) running = some (.ok, .none) ∧
    answer .linkA (.setLeaseTime onA 499) running = some (.adjusted, .value 500) ∧
    answer .linkA (.setLeaseTime onA 30000) running = some (.ok, .none) ∧
    answer .linkA (.setLeaseTime onA 30001) running = some (.adjusted, .value 30000) :=
  ⟨running_passes.2.1, by decide +kernel⟩

/-! ## Witnesses: cooling -/

theorem witness_HysteresisAndTrayMinimum : running.Passes .configure onA ∧
    answer .linkA (.setHysteresis onA 20) running = some (.ok, .none) ∧
    answer .linkA (.setHysteresis onA 21) running = some (.adjusted, .value 20) ∧
    answer .linkA (.setHysteresis onA (-1)) running = some (.adjusted, .value 0) ∧
    answer .linkA (.setTrayMinimum onA 20) running = some (.ok, .none) ∧
    answer .linkA (.setTrayMinimum onA 19) running = some (.adjusted, .value 20) ∧
    answer .linkA (.setTrayMinimum onA 101) running = some (.adjusted, .value 100) ∧
    (20 : Int) = max 0 (min 20 21) ∧ (100 : Int) = max 20 (min 100 101) ∧
    running.settings.trayMin < 100 :=
  ⟨running_passes.2.1, by decide +kernel⟩

/-- Two RUNNING trays of zone L at 30 per cent, the others at 100: a minimum of 60 raises the two. -/
def slowTrays : State :=
  { running with
    trays := Vector.ofFn fun i => { TrayEntry.atStart (if i.val < 2 then 30 else 100) with state := .running }
    cooling := { running.cooling with zones := running.cooling.zones.map fun z => { z with demand := 30 } } }

theorem witness_HysteresisAndTrayMinimum_raise : slowTrays.Passes .configure onA ∧
    raisedDuty slowTrays 60 false 0 = 60 ∧ (raisedZone slowTrays 60 false .zoneL).target = 60 ∧
    ((after (.setTrayMinimum onA 60) slowTrays).trayAt 1).duty = 60 ∧
    ((after (.setTrayMinimum onA 60) slowTrays).trayAt 3).duty = 100 :=
  ⟨passes_of_ready (by decide +kernel), by decide +kernel⟩

/-- The default curve as a request carries it, its last temperature as given. -/
def curveTo (t : Int) : List Breakpoint :=
  [⟨50, 30⟩, ⟨60, 30⟩, ⟨70, 45⟩, ⟨80, 60⟩, ⟨90, 80⟩, ⟨t, 100⟩]

/-- Both control processors PRESENT, contributing a sensor each. -/
def twoSensors : State :=
  { running with
    cps := fill 2 ⟨.present, none, false, 0, some ⟨5, 150⟩, some (some 60)⟩
    cooling := { running.cooling with cps := fill 2 true } }

theorem witness_CurveAndThresholdsApply : running.Passes .configure onA ∧ running.agenda = [] ∧
    twoSensors.Passes .configure onA ∧ twoSensors.zoneSensors .zoneL ≠ [] ∧
    twoSensors.zoneSensors .zoneR ≠ [] ∧
    curveOf (curveTo 90) = none ∧ curveOf [⟨50, 30⟩] = none ∧
    curveOf (curveTo 251) = some (#v[50, 60, 70, 80, 90, 250], #v[30, 30, 45, 60, 80, 100]) ∧
    status (.setFanCurve onA (curveTo 90)) running = some .invalid ∧
    status (.setFanCurve onA (curveTo 250)) twoSensors = some .ok ∧
    status (.setFanCurve onA (curveTo 251)) twoSensors = some .adjusted ∧
    status (.setTemperatureThresholds onA 100 100 150) running = some .invalid ∧
    answer .linkA (.setTemperatureThresholds onA (-81) 0 251) running =
      some (.adjusted, .thresholds (-80) 0 250) ∧
    status (.setTemperatureThresholds onA (-80) 0 250) running = some .ok :=
  ⟨running_passes.2.1, by decide +kernel, passes_of_ready (by decide +kernel), by decide +kernel⟩

/-- `running` with zone L in a state at a temperature, slot 1 POWERED, and conditions recorded or not. -/
def zoneAtTemp (old : TempState) (x : Int) (recording : Bool) : State :=
  { slotIn .powered with
    cooling := { running.cooling with
      zones := put running.cooling.zones 0 { ZoneCtl.atStart 100 with tz := x, temp := old } }
    alarms := { running.alarms with recording := recording } }

/-- Thresholds 110, 130 and 150, each with its clear point 6 below (R61 and the defaults of R68). -/
theorem witness_CurveAndThresholdsApply_zone :
    [109, 110, 129, 130, 149, 150].map (fun x => tempAfter Settings.default x .normal) =
      [.normal, .warn, .warn, .crit, .crit, .shutdown] ∧
    [103, 104, 123, 124, 143, 144].map (fun x => tempAfter Settings.default x .shutdown) =
      [.normal, .warn, .warn, .crit, .crit, .shutdown] ∧
    (zoneAtTemp .normal 150 false).alarms.recording = false ∧
    (zoneAtTemp .normal 150 true).alarms.recording = true ∧
    ((zoneAtTemp .normal 150 false).evaluateTemp .zoneL).agenda = [.thermalOff 0] ∧
    look ((zoneAtTemp .normal 150 false).evaluateTemp .zoneL).alarms.points (zoneShutdown .zoneL) =
      .raised ∧
    (((zoneAtTemp .normal 150 false).evaluateTemp .zoneL).queueAt .linkA).records.map (·.kind) =
      [.alarmChange, .alarmChange, .alarmChange, .zoneTempState] ∧
    (((zoneAtTemp .normal 150 true).evaluateTemp .zoneL).queueAt .linkA).records.map (·.kind) =
      [.zoneTempState] := by decide +kernel

theorem witness_UpdateMovesTheZone : (running.zoneAt .zoneL).updateTimer ≠ none := by decide +kernel

/-- The curve of the default breakpoints: 30 at and below 60, 38 at 65, 100 at and above 100 (R55). -/
theorem test_curve :
    [24, 50, 60, 65, 70, 100, 250].map
      (curveValue Settings.default.curveTemp Settings.default.curveDuty) =
      [30, 30, 30, 38, 45, 100, 100] := by decide +kernel

/-! ## Witnesses: licences and ports -/

/-- A permanent licence of 16 units for the chassis of serial 77, its check word as R73 computes it. -/
def permanent : LicenceFields :=
  let f : LicenceFields := ⟨5, 1, 16, 0, 77, 0⟩
  { f with check := licenceCheck f }

/-- `running` with a trial licence of one minute and the permanent one. -/
def licensed : State :=
  { running with pool := { running.pool with
      table := [⟨permanent, false⟩, ⟨⟨6, 2, 8, 1, 77, 0⟩, false⟩], capacity := 24 } }

theorem witness_LicencesAreInstalledAndRemoved : running.Passes .licence onService ∧
    licensed.Passes .licence onService ∧ running.agenda = [] ∧
    running.installRefusal permanent = none ∧
    running.installRefusal { permanent with serial := 0 } = some .invalid ∧
    running.installRefusal { permanent with units := 385 } = some .invalid ∧
    running.installRefusal { permanent with check := 0 } = some .badCheck ∧
    licensed.installRefusal permanent = some .duplicate ∧
    licensed.pool.table.findIdx? (fun r => r.fields.serial = 6) = some 1 ∧
    ∀ r ∈ licensed.pool.table, r.fields.serial ≠ 7 :=
  ⟨running_passes.2.2.1, passes_of_ready (by decide +kernel), by decide +kernel⟩

/-- One unit of capacity and three in use: port 1 up, port 2 disabled, port 3 PARKED. -/
def overdrawn : State :=
  { running with
    rows := put running.rows 0 (Vector.ofFn fun k =>
      if k = 0 then ⟨true, .pool, .assigned, true, .up⟩
      else if k = 1 then ⟨false, .pool, .assigned, false, .down .adminDown⟩
      else if k = 2 then ⟨false, .nonexistent, .parked, false, .nonexistent⟩
      else Row.atStart)
    pool := { running.pool with table := [⟨⟨5, 1, 1, 0, 77, 0⟩, false⟩], capacity := 1 } }

theorem witness_LicencesAreInstalledAndRemoved_reclaim :
    overdrawn.pool.capacity < overdrawn.unitsInUse ∧ overdrawn.unitsInUse = 3 ∧
    (∀ p ∈ allPorts, (running.rowAt p).unit = .none) ∧
    running.unitsInUse ≤ running.pool.capacity ∧
    overdrawn.victim = some (⟨0, 2⟩, 1) ∧ (overdrawn.rowAt ⟨0, 2⟩).unit ≠ .none ∧
    reclaimClass (overdrawn.rowAt ⟨0, 2⟩) = 1 ∧ reclaimClass (overdrawn.rowAt ⟨0, 1⟩) = 2 ∧
    reclaimClass (overdrawn.rowAt ⟨0, 0⟩) = 4 ∧
    RowCond.live (overdrawn.rowAt ⟨0, 2⟩).cond = false ∧
    RowCond.live (overdrawn.rowAt ⟨0, 0⟩).cond = true := by decide +kernel

/-- `licensed` with slot 1's rows in a given admin state and unit state. -/
def rowsIn (admin : Bool) (u : UnitState) : State :=
  { licensed with rows := put licensed.rows 0 (fill 48 ⟨admin, .pool, u, false, .down .bladeOff⟩) }

theorem witness_ReleasePortUnitFreesTheUnit : (rowsIn false .assigned).Passes .configure onA ∧
    (rowsIn false .assigned).agenda = [] ∧
    status (.releasePortUnit onA 384) (rowsIn false .assigned) = some .invalid ∧
    Port.global ⟨7, 47⟩ = 383 ∧ ((rowsIn false .assigned).rowAt ⟨7, 47⟩).unit = .none ∧
    ((rowsIn false .assigned).rowAt ⟨0, 0⟩).unit ≠ .none ∧
    ((rowsIn false .assigned).rowAt ⟨0, 0⟩).admin = false ∧
    ((rowsIn true .assigned).rowAt ⟨0, 0⟩).unit ≠ .none ∧
    ((rowsIn true .assigned).rowAt ⟨0, 0⟩).admin = true :=
  ⟨passes_of_ready (by decide +kernel), by decide +kernel⟩

/-- Slot 1 empty with a unit of its first port PARKED, and one of its second when asked, disabled both. -/
def parkedUnits (second : Bool) : State :=
  { running with
    rows := put running.rows 0 (Vector.ofFn fun k =>
      if k = 0 ∨ (k = 1 ∧ second = true) then ⟨false, .nonexistent, .parked, false, .nonexistent⟩
      else Row.atStart)
    aux := put running.aux 0 { SlotAux.atStart with parkTimer := some 9 } }

theorem witness_ReleasePortUnitFreesTheUnit_park : (parkedUnits false).Passes .configure onA ∧
    (parkedUnits true).Passes .configure onA ∧ (parkedUnits true).agenda = [] ∧
    ((parkedUnits false).rowAt ⟨0, 0⟩).unit = .parked ∧ ((parkedUnits false).rowAt ⟨0, 0⟩).admin = false ∧
    (∀ k : Fin 48, k ≠ 0 → ((parkedUnits false).rowAt ⟨0, k⟩).unit ≠ .parked) ∧
    ((parkedUnits true).rowAt ⟨0, 1⟩).unit = .parked ∧
    ((after (.releasePortUnit onA 0) (parkedUnits false)).auxAt 0).parkTimer = none ∧
    ((after (.releasePortUnit onA 0) (parkedUnits true)).auxAt 0).parkTimer = some 9 :=
  ⟨passes_of_ready (by decide +kernel), passes_of_ready (by decide +kernel), by decide +kernel⟩

/-- `running` in its 60th or 61st uptime minute with a trial licence of two minutes (R78). -/
def trial (minutes : Nat) : State :=
  { running with pool := { running.pool with
      table := [⟨⟨6, 2, 8, 2, 77, 0⟩, false⟩], capacity := 8, minutes := minutes } }

theorem witness_MinuteParkAndSettleTimers_hour :
    (trial 59).pool.minuteTimer ≠ none ∧
    (¬∃ r ∈ (trial 59).pool.table, r.expired = false ∧ r.fields.kind = 2 ∧ r.fields.minutes = 1) ∧
    look (after .uptimeMinuteTimerExpiry (trial 59)).store.dirty 1 = true ∧
    look (after .uptimeMinuteTimerExpiry (trial 60)).store.dirty 1 = false ∧
    look (after .uptimeMinuteTimerExpiry licensed).store.dirty 1 = true := by decide +kernel

theorem witness_MinuteParkAndSettleTimers :
    licensed.pool.minuteTimer ≠ none ∧
    (∃ r ∈ licensed.pool.table, r.expired = false ∧ r.fields.kind = 2 ∧ r.fields.minutes = 1) ∧
    (¬∃ r ∈ running.pool.table, r.expired = false ∧ r.fields.kind = 2 ∧ r.fields.minutes = 1) ∧
    (running.auxAt 0).parkTimer = none ∧
    (({ running with aux := put running.aux 7 { SlotAux.atStart with parkTimer := some 1 } } : State).auxAt
      7).parkTimer ≠ none ∧
    (timersAt 1).arbiter.settle = .running 1 ∧ running.arbiter.settle = .expired := by decide +kernel

/-- `overdrawn` with slot 1's park timer running, or without a park time. -/
def parking (t : Nat) (timer : Option Nat) : State :=
  { overdrawn with
    settings := { running.settings with parkTime := t }
    aux := put running.aux 0 { SlotAux.atStart with parkTimer := timer } }

theorem witness_MinuteParkAndSettleTimers_park :
    (overdrawn.rowAt ⟨0, 0⟩).unit = .assigned ∧ (parking 600 none).settings.parkTime ≠ 0 ∧
    (((parking 600 none).parkUnits 0).auxAt 0).parkTimer = some 600000 ∧
    (((parking 600 none).parkUnits 0).rowAt ⟨0, 0⟩).unit = .parked ∧
    (∀ p ∈ allPorts, p.slot = 1 → (overdrawn.rowAt p).unit ≠ .assigned) ∧
    ((parking 600 (some 1)).auxAt 0).parkTimer ≠ none ∧
    ((parking 600 (some 1)).auxAt 0).powered = false ∧ ((parking 600 none).auxAt 0).parkTimer = none ∧
    ((parking 600 (some 1)).rowAt ⟨0, 2⟩).unit = .parked ∧
    (((parking 600 (some 1)).restoreParked 0 { blade with baseCount := 2 }).rowAt ⟨0, 2⟩).unit =
      .assigned ∧
    (((parking 600 (some 1)).restoreParked 0 { blade with baseCount := 3 }).rowAt ⟨0, 2⟩).unit = .none := by
  decide +kernel

/-- Slot 1 powered and admitting, its ports enabled: port 1 BASE, port 2 POOL with a unit, port 3 POOL
without, one unit free or none, and the slot charged or not. -/
def bringing (capacity : Nat) (charged : Bool) : State :=
  { slotIn .powered with
    aux := put running.aux 0 { SlotAux.atStart with line := true, powered := true, admits := true }
    ledger := { Ledger.atStart with headroom := 24, charged := put (fill 8 false) 0 charged }
    rows := put running.rows 0 (Vector.ofFn fun k =>
      if k = 0 then ⟨true, .base, .none, false, .down .bladeOff⟩
      else if k = 1 then ⟨true, .pool, .assigned, false, .down .noPower⟩
      else if k = 2 then ⟨true, .pool, .none, false, .down .unlicensed⟩
      else ⟨false, .pool, .none, false, .down .adminDown⟩)
    pool := { running.pool with table := [⟨⟨5, 1, 2, 0, 77, 0⟩, false⟩], capacity := capacity } }

theorem witness_PortAdminTakesEveryRow_evaluate :
    (bringing 2 true).firstFail ⟨0, 0⟩ = none ∧ (bringing 2 true).firstFail ⟨0, 3⟩ = some .adminDown ∧
    (bringing 2 true).firstFail ⟨1, 0⟩ = some .bladeOff ∧
    (bringing 2 true).unitAnswer ⟨0, 0⟩ = none ∧ ((bringing 2 true).rowAt ⟨0, 0⟩).cls ≠ .pool ∧
    (bringing 2 true).unitAnswer ⟨0, 1⟩ = some false ∧ (bringing 2 true).unitAnswer ⟨0, 2⟩ = some true ∧
    (bringing 1 true).unitAnswer ⟨0, 2⟩ = none ∧
    (bringing 2 true).grantAnswer ⟨0, 2⟩ false = true ∧
    (bringing 2 false).grantAnswer ⟨0, 2⟩ false = false ∧
    ((bringing 2 true).slotAt 0).state = .powered ∧
    ((bringing 2 true).rowAt ⟨0, 2⟩).cond = .down .unlicensed := by decide +kernel

theorem witness_PortAdminTakesEveryRow : running.Passes .configure onA ∧ running.agenda = [] ∧
    status (.enablePorts onA 0 384) running = some .invalid ∧
    status (.disablePorts onA 383 382) running = some .invalid ∧
    answer .linkA (.enablePorts onA 383 383) running = some (.ok, .rows [⟨383, .nonexistent⟩]) ∧
    ((after (.disablePorts onA 0 1) running).rowAt ⟨0, 1⟩).admin = false :=
  ⟨running_passes.2.1, by decide +kernel⟩

theorem witness_BladeCommandOutcomes :
    (onBus (.powerEnable 0) running).bus.running = some ⟨.powerEnable 0, 5, none, false⟩ ∧
    (onBus (.portCommand ⟨0, 47⟩ true) running).bus.running =
      some ⟨.portCommand ⟨0, 47⟩ true, 5, none, false⟩ ∧
    (onBus (.portCommand ⟨0, 0⟩ false) running).bus.running =
      some ⟨.portCommand ⟨0, 0⟩ false, 5, none, false⟩ ∧ running.agenda = [] ∧
    (let s : State := { onBus (.powerEnable 0) running with
        bus := ⟨[.poll (.bay 1), .push 3], some ⟨.powerEnable 0, 5, none, false⟩⟩ }
     nextTxn s.bus.waiting = some (.push 3) ∧ s.freeBus.bus.running.map (·.txn) = some (.push 3)) := by
  decide +kernel

/-! ## Witnesses: zoning -/

/-- `running` with a transaction of link A over a database. -/
def editing (db : ZoneDb) : State :=
  { running with zoning := { running.zoning with txn := some ⟨.ctlA, 7, 0, db⟩ } }

/-- The transaction of `editing`. -/
def txnOver (db : ZoneDb) : Transaction := ⟨.ctlA, 7, 0, db⟩

/-- Zone 0 named "a" with a member, zone 511 named "b" without, configuration 0 named "c" listing zone 0. -/
def small : ZoneDb :=
  { ZoneDb.empty with
    zones := put (put ZoneDb.empty.zones 0 (some ⟨[0x61], [.port ⟨0, 0⟩]⟩)) 511 (some ⟨[0x62], []⟩)
    configs := put ZoneDb.empty.configs 0 (some ⟨[0x63], [0]⟩) }

/-- `small` with configuration 0 selected, listing both zones. -/
def selected : ZoneDb :=
  { small with configs := put small.configs 0 (some ⟨[0x63], [0, 511]⟩), selection := some 0 }

/-- A state in a commit phase. -/
def phaseIs (p : CommitPhase) (s : State) : State := { s with zoning := { s.zoning with phase := p } }

/-- A state with ZONING_FREEZE latched on the service link. -/
def frozen (s : State) : State :=
  { s with arbiter := { s.arbiter with latches := put s.arbiter.latches 2 ⟨true, false⟩ } }

/-- `running`, link A ACTIVE, with a transaction owned by link B (a state no run reaches). -/
def byB (db : ZoneDb) : State :=
  { editing db with zoning := { running.zoning with txn := some ⟨.ctlB, 7, 0, db⟩ } }

theorem witness_TransactionsOpenAbortAndCommit : running.Passes .configure onA ∧
    onA.link = Ctl.ctlA.link ∧ (editing small).Passes .configure onA ∧
    (editing small).zoning.txn = some (txnOver small) ∧ (txnOver small).owner = .ctlA ∧
    running.zoning.txn = none ∧ running.zoning.phase = .idle ∧
    status (.openTransaction onA) (phaseIs .saving running) = some .busy ∧
    status (.openTransaction onA) (editing small) = some .inUse ∧
    status (.commit onA) running = some .noTransaction ∧
    (phaseIs .validating (editing small)).zoning.phase = .validating ∧
    status (.abortTransaction onA) (phaseIs .validating (editing small)) = some .busy ∧
    status (.abortTransaction onA) (editing small) = some .ok ∧
    (frozen (editing small)).holdEffective .zoningFreeze = true ∧
    status (.commit onA) (frozen (editing small)) = some .frozen ∧
    (editing small).holdEffective .zoningFreeze = false ∧
    ((after (.commit onA) (editing small)).linkAt .linkA).outstanding = some ⟨1, .commit⟩ ∧
    (byB small).zoning.txn.map (·.owner) = some .ctlB ∧
    status (.commit onA) (byB small) = some .notOwner :=
  ⟨running_passes.2.1, rfl, passes_of_ready (by decide +kernel), rfl, rfl, by decide +kernel⟩

theorem editing_ready (db : ZoneDb) : (editing db).EditReady onA (txnOver db) :=
  ⟨passes_of_ready (show ready .configure onA running = true by decide +kernel), rfl, rfl,
    by simp [editing, running, State.reset, Zoning.atStart]⟩

/-- A name of `n` letters. -/
def letters (n : Nat) : Name := List.replicate n 0x7A

theorem witness_ZoneEditsTakeEffect_tests : (editing small).EditReady onA (txnOver small) ∧
    nameOk (letters 32) = true ∧ nameOk (letters 33) = false ∧ nameOk [] = false ∧
    status (.createZone onA (letters 33)) (editing small) = some .invalid ∧
    status (.createZone onA [0x62]) (editing small) = some .duplicate ∧
    look small.zones 1 = none ∧
    answer .linkA (.createZone onA (letters 32)) (editing small) = some (.ok, .value 1) ∧
    status (.renameZone onA 512 [0x62]) (editing small) = some .invalid ∧
    (look small.zones 511).map (·.name) = some [0x62] ∧
    (look small.zones 0).map (·.name) = some [0x61] ∧
    status (.renameZone onA 510 [0x64]) (editing small) = some .notFound := by
  exact ⟨editing_ready small, by decide +kernel⟩

theorem witness_ZoneEditsTakeEffect : (editing small).EditReady onA (txnOver small) ∧
    memberOf (.port 383) = some (.port ⟨7, 47⟩) ∧ memberOf (.port 384) = none ∧
    memberOf (.node 0) = none ∧
    status (.deleteZone onA 512) (editing small) = some .invalid ∧
    status (.deleteZone onA 0) (editing small) = some .inUse ∧
    answer .linkA (.deleteZone onA 511) (editing small) = some (.ok, .value 1) ∧
    status (.deleteZone onA 1) (editing small) = some .notFound ∧
    status (.addMember onA 0 (.port 384)) (editing small) = some .invalid ∧
    status (.addMember onA 0 (.port 0)) (editing small) = some .duplicate ∧
    answer .linkA (.addMember onA 511 (.port 383)) (editing small) = some (.ok, .values 1 2) ∧
    status (.removeMember onA 0 (.port 1)) (editing small) = some .notFound ∧
    answer .linkA (.removeMember onA 0 (.port 0)) (editing small) = some (.ok, .values 0 0) :=
  ⟨editing_ready small, by decide +kernel⟩

/-- `small` with zone 511 holding 64 NODE members. -/
def crowded : ZoneDb :=
  { small with
    zones := put small.zones 511
      (some ⟨[0x62], (List.range 64).map fun n => .node (BitVec.ofNat 64 (n + 1))⟩) }

theorem witness_ZoneEditsTakeEffect_full : (editing crowded).EditReady onA (txnOver crowded) ∧
    (match look crowded.zones 511 with
      | some d => decide (d.members.length = 64 ∧ Member.port ⟨7, 47⟩ ∉ d.members)
      | none => false) = true ∧
    status (.addMember onA 511 (.port 383)) (editing crowded) = some .full :=
  ⟨editing_ready crowded, by decide +kernel⟩

theorem witness_ConfigurationEditsTakeEffect : (editing small).EditReady onA (txnOver small) ∧
    status (.createConfiguration onA [] 0) (editing small) = some .invalid ∧
    status (.createConfiguration onA [0x64] 512) (editing small) = some .invalid ∧
    status (.createConfiguration onA [0x64] 1) (editing small) = some .notFound ∧
    status (.createConfiguration onA [0x63] 511) (editing small) = some .duplicate ∧
    answer .linkA (.createConfiguration onA [0x64] 511) (editing small) = some (.ok, .value 1) ∧
    status (.deleteConfiguration onA 8) (editing small) = some .invalid ∧
    status (.deleteConfiguration onA 7) (editing small) = some .notFound ∧
    status (.deleteConfiguration onA 0) (editing selected) = some .inUse ∧
    status (.deleteConfiguration onA 0) (editing small) = some .ok ∧
    status (.addZoneToConfiguration onA 8 0) (editing small) = some .invalid ∧
    status (.addZoneToConfiguration onA 0 1) (editing small) = some .notFound ∧
    status (.addZoneToConfiguration onA 0 0) (editing small) = some .duplicate ∧
    answer .linkA (.addZoneToConfiguration onA 0 511) (editing small) = some (.ok, .value 2) ∧
    status (.removeZoneFromConfiguration onA 0 512) (editing small) = some .invalid ∧
    status (.removeZoneFromConfiguration onA 0 511) (editing small) = some .notFound ∧
    status (.removeZoneFromConfiguration onA 0 0) (editing small) = some .inUse ∧
    answer .linkA (.removeZoneFromConfiguration onA 0 511) (editing selected) = some (.ok, .value 1) ∧
    status (.selectActiveConfiguration onA (some 8)) (editing small) = some .invalid ∧
    status (.selectActiveConfiguration onA (some 7)) (editing small) = some .notFound ∧
    status (.selectActiveConfiguration onA (some 0)) (editing small) = some .ok ∧
    status (.selectActiveConfiguration onA none) (editing selected) = some .ok ∧
    status (.setDefaultAccess onA none) (editing small) = some .invalid ∧
    status (.setDefaultAccess onA (some .noAccess)) (editing small) = some .ok ∧
    status (.setDefaultAccess onA (some .allAccess)) (editing small) = some .ok :=
  ⟨editing_ready small, by decide +kernel⟩

/-- A COMMIT of a database in validation. -/
def validating (db : ZoneDb) : State :=
  phaseIs .validating { editing db with
    links := put running.links 0 { Link.atStart true with outstanding := some ⟨9, .commit⟩ } }

theorem witness_ValidationJudgesTheCommit :
    (validating selected).zoning.txn = some (txnOver selected) ∧
    (validating selected).zoning.phase = .validating ∧
    ((validating selected).linkAt Ctl.ctlA.link).outstanding = some ⟨9, .commit⟩ ∧
    (frozen (validating small)).holdEffective .zoningFreeze = true ∧
    (validating small).holdEffective .zoningFreeze = false ∧
    selected.emptyZone = some 511 ∧ small.emptyZone = none ∧
    (validating small).tooLarge small = none ∧
    answer .linkA .validationComplete (validating selected) =
      some (.validationFailed, .validation 1 511) := by
  refine ⟨rfl, ?_⟩
  decide +kernel

/-- A small selection whose image exceeds a POWERED blade of capacity 0 in slot 1. -/
def tooBig : State :=
  { validating { selected with configs := put small.configs 0 (some ⟨[0x63], [0]⟩) } with
    slots := put running.slots 0 { SlotEntry.atStart with
      state := .powered, identity := some { blade with capacity := 0 } } }

theorem witness_ValidationJudgesTheCommit_tooLarge :
    tooBig.tooLarge { selected with configs := put small.configs 0 (some ⟨[0x63], [0]⟩) } = some 0 ∧
    answer .linkA .validationComplete tooBig = some (.validationFailed, .validation 2 1) := by
  decide +kernel

/-- A push of slot 1 running, its slot POWERED in an enforcement state, generation 4 active. -/
def pushing (e : Enforcement) (attempt : Nat) : State :=
  { running with
    slots := put running.slots 0 { SlotEntry.atStart with
      state := .powered, identity := some blade, enforcement := e, attempt := attempt }
    bus := ⟨[], some ⟨.push 0, 5, some ⟨4, .noAccess, []⟩, false⟩⟩
    zoning := { running.zoning with activeGen := 4 } }

theorem witness_PushOutcomesFollowTheSlotState :
    (pushing .pending 1).bus.running = some ⟨.push 0, 5, some ⟨4, .noAccess, []⟩, false⟩ ∧
    ((pushing .pending 1).slotAt 0).enforcement = .pending ∧ (pushing .pending 1).zoning.activeGen = 4 ∧
    (((pushing .pending 1).pushOutcome 0 4 (some 4)).slotAt 0).enforcement = .current ∧
    (((pushing .previous 1).pushOutcome 0 4 (some 4)).slotAt 0).enforcement = .current ∧
    (((pushing .pending 1).pushOutcome 0 3 (some 3)).slotAt 0).attempt = 1 ∧
    (((pushing .pending 1).pushOutcome 0 4 none).slotAt 0).attempt = 2 ∧
    (((pushing .previous 2).pushOutcome 0 4 none).slotAt 0).enforcement = .stale ∧
    (((pushing .stale 0).pushOutcome 0 4 (some 4)).slotAt 0).enforcement = .current ∧
    (((pushing .stale 0).pushOutcome 0 4 (some 5)).auxAt 0).repushTimer = some 30000 ∧
    (running.auxAt 0).repushTimer = none ∧
    (({ running with aux := put running.aux 0 { SlotAux.atStart with repushTimer := some 1 } }
      : State).auxAt 0).repushTimer ≠ none := by decide +kernel

/-- Slot 1 alone in the wait set of a distribution. -/
def lastWaiting : State :=
  let s := phaseIs .distributing (pushing .previous 1)
  { s with zoning := { s.zoning with waitSet := put (fill 8 false) 0 true } }

theorem witness_PushOutcomesFollowTheSlotState_last :
    look lastWaiting.zoning.waitSet 0 = true ∧ lastWaiting.zoning.phase = .distributing ∧
    (∀ k : Slot, k ≠ 0 → look lastWaiting.zoning.waitSet k = false) ∧
    (leftZoning lastWaiting 0).phase = .idle ∧
    ((lastWaiting.pushOutcome 0 4 (some 4)).zoning.phase = .idle) ∧
    (((pushing .stale 0).pushOutcome 0 3 (some 3)).bus.waiting = [.push 0]) := by decide +kernel

/-! ## Witnesses: roles, holds, alarms and event queues -/

/-- No holder, at an epoch. -/
def unheld (e : Word) : State :=
  { running with arbiter := { running.arbiter with
      standing := #v[⟨.detached, false⟩, ⟨.standby, true⟩], holder := none, epoch := e, leaseTimer := none } }

theorem witness_ClaimAndDeclareFollowTheStanding : running.Passes .claim onB ∧ running.Passes .claim onA ∧
    (unheld 4294967294).Passes .claim onB ∧ onB.link = Ctl.ctlB.link ∧ onA.link = Ctl.ctlA.link ∧
    (unheld 4294967294).arbiter.holder = none ∧
    ¬((unheld 4294967294).arbiter.epoch < 4294967294) ∧
    (unheld 4294967293).arbiter.epoch < 4294967294 ∧
    running.arbiter.holder = some Ctl.ctlB.other ∧ running.arbiter.holder = some .ctlA ∧
    running.arbiter.holder ≠ some .ctlB ∧
    answer .linkB (.claimActive onB) (unheld 4294967294) = some (.full, .claim 4294967294 none 3000) ∧
    answer .linkB (.claimActive onB) (unheld 4294967293) =
      some (.ok, .claim 4294967294 (some .ctlB) 3000) ∧
    answer .linkB (.claimActive onB) running = some (.heldByPeer, .claim 7 (some .ctlA) 3000) ∧
    answer .linkB (.declareStandby onB true) running = some (.ok, .roles 7 (some .ctlA)) ∧
    status (.declareStandby onA true) running = some .inUse :=
  ⟨passes_of_ready (by decide +kernel), passes_of_ready (by decide +kernel),
    passes_of_ready (by decide +kernel), by decide +kernel⟩

theorem witness_RenewRestartsTheLease : onA.link = Ctl.ctlA.link ∧ onB.link = Ctl.ctlB.link ∧
    (running.linkAt .linkA).up = true ∧ (running.linkAt .linkB).up = true ∧
    (running.linkAt .linkA).outstanding = none ∧ running.dev.phase = .running ∧ onA.sized = true ∧
    onA.epoch = running.arbiter.epoch ∧ (running.standingOf .ctlA).role = .active ∧
    (running.standingOf .ctlB).role ≠ .active ∧
    answer .linkA (.renew onA) running = some (.ok, .renewal 7 3000) ∧
    answer .linkB (.renew onB) running = some (.notActive, .roles 7 (some .ctlA)) ∧
    answer .linkB (.renew { onB with epoch := 6 }) running = some (.staleEpoch, .roles 7 (some .ctlA)) := by
  decide +kernel

theorem witness_HoldingEndsByTheSixSteps : running.arbiter.holder = some .ctlA ∧
    running.Passes .keep onA ∧ running.Passes .release onService ∧ running.arbiter.leaseTimer ≠ none ∧
    (let s : State := unheld 7
     s.arbiter.leaseTimer = none ∧ ready .release onService s = true ∧ s.arbiter.holder = none ∧
      answer .service (.releaseActive onService) s = some (.notActive, .roles 7 none)) ∧
    (validating small).zoning.txn.map (·.owner) = some .ctlA ∧
    (validating small).zoning.phase = .validating ∧
    ((validating small).linkAt Ctl.ctlA.link).outstanding = some ⟨9, .commit⟩ ∧
    answer .linkA .leaseTimerExpiry (validating small) = some (.notActive, .roles 8 none) ∧
    ready .release onService (validating small) = true ∧
    answer .linkA (.releaseActive onService) (validating small) = some (.notActive, .roles 8 none) ∧
    (let s : State := { running with arbiter := { running.arbiter with
        standing := #v[⟨.active, false⟩, ⟨.standby, true⟩] } }
     (after (.yieldActive onA) s).arbiter.holder = some .ctlB ∧
      (after (.yieldActive onA) s).arbiter.epoch = 9) :=
  ⟨rfl, passes_of_ready (by decide +kernel), passes_of_ready (by decide +kernel), by decide +kernel⟩

theorem witness_HoldsActOnTheOwnLatch : running.Passes .hold onB ∧
    running.holdEffective .coolingOverride = false ∧
    (running.latchesOf .linkB).get .zoningFreeze = false ∧
    answer .linkB (.setHold onB (some .zoningFreeze)) running =
      some (.ok, .hold true #v[false, true, false]) ∧
    answer .linkB (.releaseHold onB (some .zoningFreeze)) (frozen running) =
      some (.ok, .hold true #v[false, false, true]) ∧
    ((after (.setHold onB (some .zoningFreeze)) running).queueAt .linkB).records.map (·.kind) =
      [.holdChange] ∧
    (after (.setHold onB (some .coolingOverride)) running).arbiter.latches =
      #v[⟨false, false⟩, ⟨false, true⟩, ⟨false, false⟩] ∧
    (answer .linkB (.setHold onB none) running).map (·.1) = some .invalid :=
  ⟨passes_of_ready (by decide +kernel), by decide +kernel⟩

/-- `running` with the last point RAISED. -/
def alarmed : State :=
  { running with alarms := { AlarmUnit.atPowerOn with points := put (fill 57 .clear) 56 .raised } }

theorem witness_AlarmRequestsActOnThePoints : running.Passes .alarm onA ∧
    alarmed.Passes .alarm onService ∧
    status (.acknowledgeAlarm onA (.point 57)) alarmed = some .invalid ∧
    answer .linkA (.acknowledgeAlarm onA (.point 56)) alarmed = some (.ok, .point .acked) ∧
    answer .linkA (.acknowledgeAlarm onA (.point 0)) alarmed = some (.ok, .point .clear) ∧
    answer .linkA (.acknowledgeAlarm onA .all) alarmed = some (.ok, .value 1) ∧
    status (.cutOffAudible onA) alarmed = some .ok :=
  ⟨running_passes.2.2.2.1, passes_of_ready (by decide +kernel), by decide +kernel⟩

/-- A record. -/
def record (n : Nat) : EventRecord := ⟨BitVec.ofNat 16 n, .role, .roleChange, 1, 2, 3, 7⟩

/-- `running` with three records in link A's queue. -/
def withRecords : State :=
  { running with
    queues := put running.queues 0
      ⟨[record 0, record 1, record 2], 112, ClassMask.all, 3, false, true⟩ }

theorem witness_QueueRequestsFetchAndDeepen : running.Passes .read onA ∧ withRecords.Passes .read onA ∧
    (withRecords.queueAt .linkA).records ≠ [] ∧ (running.queueAt .linkA).records = [] ∧
    running.otherDepths .linkA = 144 ∧
    status (.fetchEvents onA 0) withRecords = some .invalid ∧
    status (.fetchEvents onA 17) withRecords = some .invalid ∧
    answer .linkA (.fetchEvents onA 1) withRecords = some (.ok, .events 2 [record 0]) ∧
    answer .linkA (.fetchEvents onA 16) withRecords =
      some (.ok, .events 0 [record 0, record 1, record 2]) ∧
    status (.setQueueDepth onA 8) withRecords = some .notEmpty ∧
    answer .linkA (.setQueueDepth onA 112) running = some (.ok, .value 112) ∧
    status (.setQueueDepth onA 113) running = some .full ∧
    answer .linkA (.setQueueDepth onA 7) running = some (.adjusted, .value 8) :=
  ⟨running_passes.1, passes_of_ready (by decide +kernel), by decide +kernel⟩

theorem witness_SetEventMaskAppliesTheSet : running.Passes .read onA ∧
    EventKind.cls .roleChange ≠ .alarm ∧
    ClassMask.holds (running.queueAt .service).mask (EventKind.cls .roleChange) = true ∧
    ClassMask.holds (running.queueAt .service).mask (EventKind.cls .ledger) = false :=
  ⟨running_passes.1, by decide +kernel⟩

/-! ## Witnesses: presence, identity and polls -/

/-- `running` with one position's control record. -/
def controlOf (pos : Position) (k : PosCtl) : State :=
  { running with ctl := put running.ctl (Position.idx pos) k }

theorem witness_PresenceIsDebouncedAndTaken :
    running.agenda = [] ∧ (running.ctlAt (.slot 0)).input = false ∧
    (∀ pos ∈ allPositions,
      ((controlOf pos ⟨true, false, some ⟨1, true⟩, true, 2, none⟩).ctlAt pos).debounce =
        some ⟨1, true⟩ ∧
      (controlOf pos ⟨true, false, some ⟨1, true⟩, true, 2, none⟩).vacant pos = true) ∧
    ((controlOf (.bay 3) ⟨false, true, some ⟨1, false⟩, true, 0, some 5⟩).ctlAt (.bay 3)).taken = true ∧
    (slotIn .off).vacant (.slot 0) = false ∧
    (running.settings.parkTime ≠ 0 ∧ (parking 0 none).settings.parkTime = 0) ∧
    (let s : State := { slotIn .off with
        ctl := put running.ctl (Position.idx (.slot 0)) ⟨false, true, some ⟨1, false⟩, true, 0, some 5⟩ }
     look s.ledger.shedSet 0 = false ∧
      ((after (.debounceTimerExpiry (.slot 0)) s).slotAt 0).state = .empty) ∧
    ((controlOf (.tray 0) ⟨false, false, none, true, 0, none⟩).ctlAt (.tray 0)).debounce = none := by
  decide +kernel

/-- The identity read of a position running, its module QUALIFYING, with attempts behind it. -/
def readingAt (pos : Position) (attempts : Nat) : State :=
  { running with
    slots := fill 8 { SlotEntry.atStart with state := .qualifying }
    cps := fill 2 { CpEntry.atStart with state := .qualifying }
    bays := fill 4 { BayEntry.atStart with state := .qualifying }
    trays := fill 4 { TrayEntry.atStart 100 with state := .qualifying }
    ctl := put running.ctl (Position.idx pos) ⟨true, true, none, true, attempts, none⟩
    bus := ⟨[], some ⟨.identity pos, 5, none, false⟩⟩ }

/-- The words of a record with the check word R5 asks for: the sum of all words is 0 modulo 65536. -/
def words (ws : List Half) : List Half := ws ++ [0 - wordSum ws]

theorem witness_IdentityReadsAreJudged :
    (∀ pos ∈ allPositions, (readingAt pos 2).reading pos = true) ∧
    ((readingAt (.slot 0) 2).ctlAt (.slot 0)).attempts + 1 = 3 ∧
    ((readingAt (.slot 0) 1).ctlAt (.slot 0)).attempts + 1 < 3 ∧
    wordSum [1, 0, 7] ≠ 0 ∧
    judgeIdentity .portBlade bladeFields ⟨some .portBlade, words [1, 0, 100, 32, 16, 260, 6, 1024]⟩ =
      .qualified blade ∧
    judgeIdentity .portBlade bladeFields ⟨some .portBlade, words [1, 0, 100, 33, 16, 260, 6, 1024]⟩ =
      .misfit ∧
    judgeIdentity .portBlade bladeFields ⟨some .fanTray, words [1, 0, 100, 32, 16, 260, 6, 1024]⟩ =
      .misfit ∧
    (judgeIdentity .controlProcessor cpFields ⟨some .fanTray, words [1, 0, 5, 300]⟩ = .misfit ∧
      judgeIdentity .powerSupply supplyFields ⟨some .fanTray, words [1, 0, 9, 6000, 500]⟩ = .misfit ∧
      judgeIdentity .fanTray trayFields ⟨some .powerSupply, words [1, 0, 11, 20000, 50]⟩ = .misfit) ∧
    judgeIdentity .controlProcessor cpFields ⟨some .controlProcessor, words [1, 0, 5, 300]⟩ =
      .qualified ⟨5, 300⟩ ∧
    judgeIdentity .powerSupply supplyFields ⟨some .powerSupply, words [1, 0, 9, 6000, 500]⟩ =
      .qualified ⟨9, 6000, 500⟩ ∧
    judgeIdentity .fanTray trayFields ⟨some .fanTray, words [1, 0, 11, 20000, 50]⟩ =
      .qualified ⟨11, 20000, 50⟩ ∧
    ((readingAt (.slot 0) 0).auxAt 0).held = none ∧
    (let s : State := { readingAt (.slot 0) 0 with
        aux := put running.aux 0 { SlotAux.atStart with held := some ⟨100, 32, fill 48 true⟩ } }
     (s.auxAt 0).held = some ⟨100, 32, fill 48 true⟩ ∧ blade.serial = 100 ∧ blade.portCount = 32) := by
  decide +kernel

/-- Slot 1 QUALIFYING beside two supplies of 2500 W, its identity read running, the ledger as a recompute of
these inputs leaves it, and its auto-power flag set or not. -/
def qualifying (auto : Bool) : State :=
  let s : State := { offSupplied with
    slots := put running.slots 0 { SlotEntry.atStart with state := .qualifying, autoPower := auto } }
  { s with ledger := s.ledgerStages, bus := ⟨[], some ⟨.identity (.slot 0), 5, none, false⟩⟩ }

/-- The identity reply of `blade`. -/
def bladeReply : IdentityReply := ⟨some .portBlade, words [1, 0, 100, 32, 16, 260, 6, 1024]⟩

/-- A state without a row, a transaction or a slot that admits keeps the law of the port table. -/
theorem portLaw_of_empty {s : State} (rows : ∀ p, s.rowAt p = Row.atStart) (txn : s.zoning.txn = none)
    (slots : ∀ k, ((s.auxAt k).powered = true ↔ (s.slotAt k).state = .powered) ∧
      (s.auxAt k).admits = false ∧ (s.slotAt k).enforcement ∉ [Enforcement.current, .previous] ∧
      ((s.slotAt k).state ≠ .powered → (s.slotAt k).enforcement = .none)) : s.PortLaw := by
  refine ⟨fun sl => ?_, fun p => ?_, fun h => absurd txn h⟩
  · obtain ⟨a, b, c, d⟩ := slots sl
    exact ⟨a, ⟨fun e => by simp [b] at e, fun e => absurd (by rcases e with e | e <;> simp [e]) c⟩, d,
      fun e => absurd (by simp [e]) c⟩
  · constructor <;> rw [rows] <;> simp [Row.atStart, RowCond.live]

theorem no_rows : ∀ p, State.reset.rowAt p = Row.atStart := by
  have h : ∀ i : Slot, ∀ j : Fin 48, State.reset.rowAt ⟨i, j⟩ = Row.atStart := by decide +kernel
  exact fun ⟨i, j⟩ => h i j

theorem qualifying_laws (auto : Bool) : (qualifying auto).LedgerLaw ∧ (qualifying auto).PortLaw := by
  cases auto <;>
    exact ⟨by unfold State.LedgerLaw; decide +kernel, portLaw_of_empty no_rows rfl (by decide +kernel)⟩

theorem witness_IdentityReadsAreJudged_auto :
    (∀ auto, (qualifying auto).LedgerLaw ∧ (qualifying auto).PortLaw) ∧
    (qualifying true).reading (.slot 0) = true ∧ (qualifying true).dev.phase = .running ∧
    ((qualifying true).slotAt 0).autoPower = true ∧ ((qualifying false).slotAt 0).autoPower = false ∧
    ((qualifying true).auxAt 0).parkTimer = none ∧ ((qualifying true).auxAt 0).held = none ∧
    (qualifying true).ledger.overcommit = .closed ∧
    (qualifying true).ledgerStages = (qualifying true).ledger ∧
    0 ≤ (qualifying true).ledger.headroom - (blade.basePower : Int) * 4 ∧
    ((qualifying true).zoneAt (zoneOfSlot 0)).temp ≠ .shutdown ∧
    ((after (.identityReadReply (.slot 0) bladeReply) (qualifying true)).slotAt 0).state = .powering ∧
    ((after (.identityReadReply (.slot 0) bladeReply) (qualifying false)).slotAt 0).state = .off := by
  refine ⟨qualifying_laws, ?_⟩
  decide +kernel

/-- The same with zone L in SHUTDOWN, and with a quarter watt too little headroom. -/
def qualifyingHot : State := { qualifying true with cooling := offHot.cooling }
def qualifyingShort : State := headroomIs 1039 (qualifying true)

theorem qualifyingHot_laws : qualifyingHot.LedgerLaw ∧ qualifyingHot.PortLaw :=
  ⟨by unfold State.LedgerLaw; decide +kernel, portLaw_of_empty no_rows rfl (by decide +kernel)⟩
theorem qualifyingShort_laws : qualifyingShort.LedgerLaw ∧ qualifyingShort.PortLaw :=
  ⟨by unfold State.LedgerLaw; decide +kernel, portLaw_of_empty no_rows rfl (by decide +kernel)⟩

theorem witness_IdentityReadsAreJudged_other :
    qualifyingHot.ledgerStages = qualifyingHot.ledger ∧ qualifyingHot.ledger.overcommit = .closed ∧
    (qualifyingHot.auxAt 0).parkTimer = none ∧ (qualifyingHot.zoneAt (zoneOfSlot 0)).temp = .shutdown ∧
    qualifyingShort.ledger.headroom - (blade.basePower : Int) * 4 < 0 ∧
    ((after (.identityReadReply (.slot 0) bladeReply) qualifyingShort).slotAt 0).state = .off :=
  ⟨rfl, by decide +kernel⟩

/-- A candidate of serial 5 behind an asserted line in STARTING, its identity read running: `blade` is another
module. -/
def candidate : State :=
  { qualifying true with
    dev := State.reset.dev
    aux := put running.aux 0 { SlotAux.atStart with line := true, held := some ⟨5, 32, fill 48 true⟩ } }

theorem witness_IdentityReadsAreJudged_candidate :
    candidate.reading (.slot 0) = true ∧ candidate.agenda = [] ∧ candidate.dev.phase = .starting ∧
    (candidate.auxAt 0).held = some ⟨5, 32, fill 48 true⟩ ∧ blade.serial ≠ 5 ∧
    ((after (.identityReadReply (.slot 0) bladeReply) candidate).slotAt 0).state = .off ∧
    ((after (.identityReadReply (.slot 0) bladeReply) candidate).auxAt 0).line = false ∧
    ((after (.identityReadReply (.slot 0) ⟨some .fanTray, words [1]⟩) candidate).auxAt 0).line = false := by
  decide +kernel

/-- The status poll of a position running, every module in service. -/
def pollingAt (pos : Position) : State :=
  { running with
    slots := fill 8 { SlotEntry.atStart with state := .powered, identity := some blade, missed := 2 }
    cps := fill 2 ⟨.present, none, false, 2, some ⟨5, 150⟩, none⟩
    bays := fill 4 ⟨.online, none, false, 2, some ⟨9, 2500, 1500⟩, none⟩
    trays := fill 4 { TrayEntry.atStart 100 with state := .running, identity := some ⟨11, 12000, 200⟩ }
    bus := ⟨[], some ⟨.poll pos, 5, none, false⟩⟩ }

theorem witness_PollsAreRecordedAndTimed :
    (pollingAt (.slot 7)).bus.running = some ⟨.poll (.slot 7), 5, none, false⟩ ∧
    ((pollingAt (.slot 7)).slotAt 7).state ∉ [SlotState.empty, .qualifying, .rejected] ∧
    ((pollingAt (.cp .cpB)).cpAt .cpB).state = .present ∧
    (running.ctlAt (.slot 0)).pollTimer = none ∧
    ((controlOf (.bay 3) ⟨true, true, none, true, 0, some 1⟩).ctlAt (.bay 3)).pollTimer ≠ none ∧
    ((after .statusPollTimeout (pollingAt (.bay 3))).bayAt 3).state = .failed ∧
    ((after .statusPollTimeout (pollingAt (.slot 7))).slotAt 7).missed = 3 ∧
    rotorSlow 50 12000 3000 = false ∧ rotorSlow 50 12000 2999 = true := by decide +kernel

theorem witness_PollsAreRecordedAndTimed_replies :
    (((slotIn .powering).bladeReply 0 ⟨true, none, some 60, none, none, 100⟩).slotAt 0).state = .powered ∧
    (((slotIn .powering).bladeReply 0 ⟨true, some 3, some 60, none, none, 100⟩).slotAt 0).state = .faulted ∧
    (((slotIn .powered).bladeReply 0 ⟨false, none, some 60, none, none, 100⟩).slotAt 0).state = .faulted ∧
    (((slotIn .off).bladeReply 0 ⟨true, none, some 60, none, none, 0⟩).slotAt 0).state = .off := by
  decide +kernel

/-! ## Witnesses: store -/

/-- `running` with a mark on a section. -/
def dirtyAt (k : Fin 3) : State :=
  { running with store := { running.store with dirty := put (fill 3 false) k true } }

/-- `running` with a write of the zoning section for a commit in SAVING. -/
def saving : State :=
  phaseIs .saving { running with
    store := { running.store with write := some ⟨.zoning ⟨ZoneDb.empty, 1⟩, true⟩ } }

/-- `saving` of a database that zones port 97 of slot 3, with slot 1 CURRENT and slots 2 and 3 TOO_SMALL, the
blade of slot 3 without capacity; the effective configuration changed or not. -/
def savingWith (changed : Bool) : State :=
  { saving with
    slots := put (put running.slots 0 { SlotEntry.atStart with
        state := .powered, identity := some blade, enforcement := .current })
      1 { SlotEntry.atStart with state := .powered, identity := some blade, enforcement := .tooSmall }
      |> (put · 2 { SlotEntry.atStart with
        state := .powered, identity := some { blade with capacity := 0 }, enforcement := .tooSmall })
    zoning := { saving.zoning with
      changed := changed, commitGen := 5
      defined := { small with
        zones := put small.zones 0 (some ⟨[0x61], [.port ⟨2, 0⟩, .port ⟨2, 1⟩]⟩), selection := some 0 } } }

theorem witness_StoreWritesStartAndComplete_commit :
    (savingWith true).zoning.changed = true ∧ (savingWith false).zoning.changed = false ∧
    (savingWith true).zoning.phase = .saving ∧ (savingWith true).agenda = [] ∧
    anySet ((savingWith true).slots.map fun e => decide (e.enforcement = .current)) = true ∧
    imageSize (savingWith true).zoning.defined.effective 1 ≤ ((savingWith true).bladeOf 1).capacity ∧
    ((savingWith true).bladeOf 2).capacity < imageSize (savingWith true).zoning.defined.effective 2 ∧
    (after (.storeWriteComplete true) (savingWith false)).zoning.phase = .idle ∧
    (after (.storeWriteComplete true) (savingWith true)).zoning.phase = .distributing := by decide +kernel

/-- `savingWith` a changed configuration and slot 2 alone, TOO_SMALL: no slot is CURRENT. -/
def savingAlone : State :=
  { savingWith true with
    slots := put running.slots 1
      { SlotEntry.atStart with state := .powered, identity := some blade, enforcement := .tooSmall }
    aux := put running.aux 1 { SlotAux.atStart with line := true, powered := true } }

theorem witness_StoreWritesStartAndComplete_alone : savingAlone.PortLaw ∧
    savingAlone.zoning.changed = true ∧ savingAlone.zoning.phase = .saving ∧ savingAlone.agenda = [] ∧
    savingAlone.slots.map (fun e => decide (e.enforcement = .current)) = fill 8 false ∧
    imageSize savingAlone.zoning.defined.effective 1 ≤ (savingAlone.bladeOf 1).capacity :=
  ⟨portLaw_of_empty no_rows rfl (by decide +kernel), by decide +kernel⟩

theorem witness_StoreWritesStartAndComplete :
    (dirtyAt 0).nextWrite = some .config ∧ (dirtyAt 0).store.write.isNone = true ∧
    (dirtyAt 0).dev.phase = .running ∧ running.nextWrite = none ∧ State.reset.dev.phase = .starting ∧
    saving.store.write.isSome = true ∧ saving.zoning.phase = .saving ∧ running.agenda = [] ∧
    WriteContent.section (.zoning ⟨ZoneDb.empty, 1⟩) = .zoning ∧
    (let s : State := { running with store := { running.store with write := some ⟨.licences [], false⟩ } }
     s.store.write = some ⟨.licences [], false⟩ ∧
      (after (.storeWriteComplete false) s).store.fault = #v[false, true, false] ∧
      (after (.storeWriteComplete true) s).store.last = some .licences) := by decide +kernel

end Sys2Proof.Tests
end

section
/-! Reading a table: what the lemmas of `Laws/Tables.lean` leave open. -/

namespace Sys2Proof.Power
open Sys2Proof Sys2Proof.Machine

variable {α β : Type} {n : Nat}

@[simp] theorem look_ofFn (f : Fin n → α) (i : Fin n) : look (Vector.ofFn f) i = f i := by simp [look]

theorem map_eq_iff (f : α → β) (u v : Vector α n) :
    u.map f = v.map f ↔ ∀ i, f (look u i) = f (look v i) :=
  ⟨fun h i => by simpa using congrArg (look · i) h, fun h => look_ext fun i => by simpa using h i⟩

theorem mem_toList_iff (v : Vector α n) (x : α) : x ∈ v.toList ↔ ∃ i, look v i = x := by
  simp only [Vector.mem_toList_iff, Vector.mem_iff_getElem, look]
  exact ⟨fun ⟨i, hi, e⟩ => ⟨⟨i, hi⟩, e⟩, fun ⟨i, e⟩ => ⟨i.1, i.2, e⟩⟩

theorem anySet_eq_false_iff (v : Vector Bool n) : anySet v = false ↔ ∀ i, look v i = false := by
  rw [← Bool.not_eq_true, anySet_iff]; simp

end Sys2Proof.Power
end

section
/-! What the event distributor and the alarm unit change: alarms, queues and change counts only. -/

namespace Sys2Proof.Power
open Sys2Proof Sys2Proof.Machine

/-- Queues of the same depths and masks. -/
def SameQueues (q r : Vector EventQueue 3) : Prop := r.map EventQueue.lasting = q.map EventQueue.lasting

/-- `t` is `s` but for alarms, event records and change counts. -/
def Reports (s t : State) : Prop :=
  ∃ a q c, SameQueues s.queues q ∧ t = { s with alarms := a, queues := q, counts := c }

variable {s t u : State}

theorem Reports.refl (s : State) : Reports s s := ⟨_, _, _, rfl, rfl⟩

theorem Reports.trans : Reports s t → Reports t u → Reports s u := by
  rintro ⟨_, _, _, h, rfl⟩ ⟨_, _, _, k, rfl⟩
  exact ⟨_, _, _, k.trans h, rfl⟩

/-- `Reports.trans` with the later part first, so that the state between is known when the earlier one is read. -/
theorem Reports.after (k : Reports t u) (h : Reports s t) : Reports s u := h.trans k

theorem Reports.ite {c : Prop} [Decidable c] (ht : c → Reports s t) (hu : ¬c → Reports s u) :
    Reports s (if c then t else u) := by
  split
  · exact ht ‹_›
  · exact hu ‹_›

theorem Reports.foldl {ι : Type} {f : State → ι → State} (hf : ∀ t i, Reports t (f t i)) (l : List ι)
    (s : State) : Reports s (l.foldl f s) := by
  induction l generalizing s with
  | nil => exact .refl s
  | cons i l ih => exact (hf s i).trans (ih _)

theorem bump_reports (tb : Table) (s : State) : Reports s (s.bump tb) :=
  ⟨_, _, _, rfl, rfl⟩

theorem place_lasting (q : EventQueue) (k : EventKind) (x a b : Half) (e : Word) :
    (q.place k x a b e).lasting = q.lasting := by
  rw [EventQueue.place]
  split
  · rfl
  · split <;> rfl

theorem offer_lasting (q : EventQueue) (k : EventKind) (x a b : Half) (e : Word) :
    (q.offer k x a b e).lasting = q.lasting := by
  rw [EventQueue.offer]
  split
  · exact place_lasting ..
  · rfl

theorem report_reports (k : EventKind) (x a b : Half) (s : State) : Reports s (s.report k x a b) :=
  ⟨_, _, _, (map_eq_iff ..).2 fun i => by rw [look_map, offer_lasting], rfl⟩

theorem movePoint_reports (n : Fin 57) (st : PointState) (c : Half) (s : State) :
    Reports s (s.movePoint n st c) :=
  (report_reports ..).after ((bump_reports ..).after ⟨_, _, _, rfl, rfl⟩)

theorem applyCondition_reports (n : Fin 57) (v : Bool) (s : State) : Reports s (s.applyCondition n v) :=
  .ite (fun _ => .refl s) fun _ => movePoint_reports ..

theorem condition_reports (n : Fin 57) (v : Bool) (s : State) : Reports s (s.condition n v) :=
  .ite (fun _ => ⟨_, _, _, rfl, rfl⟩) fun _ => applyCondition_reports ..

theorem acknowledge_reports (c : Half) (n : Fin 57) (s : State) : Reports s (s.acknowledge c n) :=
  .ite (fun _ => .refl s) fun _ => movePoint_reports ..

theorem applyRecorded_reports (s : State) : Reports s s.applyRecorded :=
  .ite (fun _ => Reports.trans ⟨_, _, _, rfl, rfl⟩ (.foldl (fun _ _ => applyCondition_reports ..) _ _))
    fun _ => .refl s

theorem handStoreFault_reports (s : State) : Reports s s.handStoreFault := condition_reports ..

theorem ledgerEvent_reports (a x b : Half) (s : State) : Reports s (s.ledgerEvent a x b) :=
  report_reports ..

theorem slotEvent_reports (sl : Slot) (c : Cause) (s : State) : Reports s (s.slotEvent sl c) :=
  report_reports ..

theorem cpEvent_reports (p : Cp) (c : Cause) (s : State) : Reports s (s.cpEvent p c) :=
  report_reports ..

theorem licenceEvent_reports (a : Half) (x b : Nat) (s : State) : Reports s (s.licenceEvent a x b) :=
  report_reports ..

theorem commitProgress_reports (p b : Half) (s : State) : Reports s (s.commitProgress p b) :=
  report_reports ..

theorem handBayConditions_reports (b : Bay) (s : State) : Reports s (s.handBayConditions b) :=
  (condition_reports ..).trans (condition_reports ..)

theorem handTrayCondition_reports (t : Tray) (s : State) : Reports s (s.handTrayCondition t) :=
  condition_reports ..

theorem handTempConditions_reports (z : AirZone) (st : TempState) (s : State) :
    Reports s (s.handTempConditions z st) :=
  ((condition_reports ..).trans (condition_reports ..)).trans (condition_reports ..)

/-- A table's place written by a setter that counts changes: the state with the place written, up to reports. -/
theorem Reports.written {α : Type} [DecidableEq α] {x old : α} {tb : Table} {t : State} (h : x = old → s = t) :
    Reports t (if x = old then s else t.bump tb) :=
  .ite (fun e => h e ▸ .refl _) fun _ => bump_reports ..

theorem setSlot_reports (i : Slot) (e : SlotEntry) (s : State) :
    Reports { s with slots := put s.slots i e } (s.setSlot i e) :=
  .written fun h => by rw [h, State.slotAt, put_look]

theorem setCp_reports (c : Cp) (e : CpEntry) (s : State) :
    Reports { s with cps := put s.cps (Cp.idx c) e } (s.setCp c e) :=
  .written fun h => by rw [h, State.cpAt, put_look]

theorem setBay_reports (b : Bay) (e : BayEntry) (s : State) :
    Reports { s with bays := put s.bays b e } (s.setBay b e) :=
  .written fun h => by rw [h, State.bayAt, put_look]

theorem setTray_reports (i : Tray) (e : TrayEntry) (s : State) :
    Reports { s with trays := put s.trays i e } (s.setTray i e) :=
  .written fun h => by rw [h, State.trayAt, put_look]

theorem setRow_reports (p : Port) (r : Row) (s : State) :
    Reports { s with rows := put s.rows p.slot (put (look s.rows p.slot) p.idx r) } (s.setRow p r) :=
  .written fun h => by rw [h, State.rowAt, put_look, put_look]

/-- A value of a state that reads neither alarms, queues nor counts. -/
theorem Reports.read {α : Type} (f : State → α) (h : Reports s t)
    (hf : ∀ s a q c, f { s with alarms := a, queues := q, counts := c } = f s := by intros; rfl) :
    f t = f s := by
  obtain ⟨a, q, c, -, rfl⟩ := h
  exact hf s a q c

end Sys2Proof.Power
end

section
/-! The ledger: what its rules keep between two recomputes, and what a recompute derives (R25 to R31, R43 to
R48). -/

namespace Sys2Proof.Power
open Sys2Proof Sys2Proof.Machine

/-! ## What the rules of the overcommit and of the restore pass keep -/

/-- The timers of the ledger's law (R43, R44, R46, R47). -/
def Timers (l : Ledger) : Prop :=
  (l.graceTimer.isSome = true ↔ l.overcommit = .grace) ∧
    (l.restoreTimer ≠ none → l.overcommit = .closed ∧ anySet l.shedSet = true)

/-- The headroom clause of the ledger's law, said of the charged slots (R43). -/
def Covered (s : State) : Prop :=
  s.dev.phase = .running → s.ledger.overcommit = .closed →
    0 ≤ s.ledger.headroom ∨ anySet s.ledger.charged = false

/-- The ledger less overcommit state, timers, order and pass: its quantities, readouts, flags and sets. -/
def figures (l : Ledger) : Ledger :=
  { l with
    overcommit := .closed
    graceTimer := none
    restoreTimer := none
    order := none
    pass := none
    passEnd := none }

theorem figures_read {α : Type} (f : Ledger → α) {l m : Ledger} (h : figures l = figures m)
    (hf : ∀ l, f (figures l) = f l := by intro; rfl) : f l = f m :=
  (hf l).symm.trans ((congrArg f h).trans (hf m))

/-- A rule of the overcommit or of the restore pass: only the ledger, the agenda and reports change, no figure
does, no headroom notice is handed, and the law of timers and headroom is kept. -/
structure Books (s t : State) : Prop where
  frame : ∃ l g a q c, SameQueues s.queues q ∧
    t = { s with ledger := l, agenda := g, alarms := a, queues := q, counts := c }
  figures : figures t.ledger = figures s.ledger
  tasks : ∀ x ∈ s.agenda, x ∈ t.agenda
  notice : .headroom ∈ t.agenda → .headroom ∈ s.agenda
  timers : Timers s.ledger → Timers t.ledger
  covered : Covered s → Covered t

variable {s t u : State}

theorem Books.trans (h : Books s t) (k : Books t u) : Books s u where
  frame := by
    obtain ⟨_, _, _, _, _, hq, rfl⟩ := h.frame
    obtain ⟨_, _, _, _, _, kq, rfl⟩ := k.frame
    exact ⟨_, _, _, _, _, kq.trans hq, rfl⟩
  figures := k.figures.trans h.figures
  tasks x hx := k.tasks x (h.tasks x hx)
  notice hx := h.notice (k.notice hx)
  timers ht := k.timers (h.timers ht)
  covered hc := k.covered (h.covered hc)

/-- `Books.trans` with the later rule first, so that the state between is known when the earlier one is read. -/
theorem Books.after (k : Books t u) (h : Books s t) : Books s u := h.trans k

theorem Reports.books (h : Reports s t) : Books s t := by
  obtain ⟨a, q, c, hq, rfl⟩ := h
  exact ⟨⟨_, _, _, _, _, hq, rfl⟩, rfl, fun _ hx => hx, fun hx => hx, fun ht => ht, fun hc => hc⟩

theorem Books.refl (s : State) : Books s s := (Reports.refl s).books

theorem Books.ite {c : Prop} [Decidable c] (ht : c → Books s t) (hu : ¬c → Books s u) :
    Books s (if c then t else u) := by
  split
  · exact ht ‹_›
  · exact hu ‹_›

/-- A change of the ledger that leaves the figures and closes no overcommit. -/
theorem Books.of_ledger {l : Ledger} (hf : Power.figures l = Power.figures s.ledger)
    (ht : Timers s.ledger → Timers l) (hc : l.overcommit = .closed → s.ledger.overcommit = .closed) :
    Books s { s with ledger := l } where
  frame := ⟨_, _, _, _, _, rfl, rfl⟩
  figures := hf
  tasks _ hx := hx
  notice hx := hx
  timers := ht
  covered h hr hl := by
    have hh : l.headroom = s.ledger.headroom := figures_read (·.headroom) hf
    have hq : l.charged = s.ledger.charged := figures_read (·.charged) hf
    simpa only [hh, hq] using h hr (hc hl)

theorem mem_hand {x y : Task} : x ∈ (s.hand y).agenda ↔ x ∈ s.agenda ∨ x = y := by
  unfold State.hand
  split
  · exact ⟨.inl, fun h => h.elim id fun e => by simp_all⟩
  · simp

theorem hand_frame (x : Task) (s : State) : ∃ g, s.hand x = { s with agenda := g } := by
  unfold State.hand
  split <;> exact ⟨_, rfl⟩

theorem hand_books {x : Task} (hx : x ≠ .headroom) (s : State) : Books s (s.hand x) := by
  have tasks : ∀ y ∈ s.agenda, y ∈ (s.hand x).agenda := fun y hy => mem_hand.2 (.inl hy)
  have notice : .headroom ∈ (s.hand x).agenda → .headroom ∈ s.agenda := fun h =>
    (mem_hand.1 h).resolve_right hx.symm
  obtain ⟨g, e⟩ := hand_frame x s
  rw [e] at tasks notice ⊢
  exact ⟨⟨_, _, _, _, _, rfl, rfl⟩, rfl, tasks, notice, fun ht => ht, fun hc => hc⟩

theorem endPass_books (s : State) : Books s s.endPass :=
  .ite (fun _ => .of_ledger rfl id id) fun _ => .refl s

theorem endPassIfDone_books (s : State) : Books s s.endPassIfDone :=
  .ite (fun _ => endPass_books s) fun _ => .refl s

theorem mapPass_books (f : RestorePass → RestorePass) (s : State) : Books s (s.mapPass f) :=
  .of_ledger rfl id id

theorem startPass_books (s : State) : Books s s.startPass :=
  (hand_books (x := .restore) (by decide) _).after
    ((ledgerEvent_reports ..).books.after (.of_ledger rfl id id))

theorem passRule_books (s : State) : Books s s.passRule := by
  unfold State.passRule
  split
  · exact .ite (fun _ => startPass_books s) fun _ => .refl s
  · exact .refl s

theorem leftPowering_books (sl : Slot) (s : State) : Books s (s.leftPowering sl) := by
  unfold State.leftPowering
  split
  · exact .ite (fun _ => (hand_books (x := .restore) (by decide) _).after (.of_ledger rfl id id))
      fun _ => .refl s
  · exact .refl s

theorem skipCandidate_books (c : Slot) (s : State) : Books s (s.skipCandidate c) :=
  (ledgerEvent_reports ..).books.trans
    (.ite (fun _ => endPass_books _) fun _ => hand_books (x := .restore) (by decide) _)

theorem orderShed_books (s : State) : Books s s.orderShed := by
  unfold State.orderShed
  split
  · exact .refl s
  · exact (hand_books (x := .shed _) (by simp) _).after
      ((ledgerEvent_reports ..).books.after (.of_ledger rfl id id))

theorem orderShed_overcommit (s : State) : s.orderShed.ledger.overcommit = s.ledger.overcommit := by
  unfold State.orderShed
  split
  · rfl
  · obtain ⟨g, e⟩ := hand_frame (.shed ‹_›) _
    rw [e]
    rfl

theorem startShedding_books (c : Half) (hr : Timers s.ledger → s.ledger.restoreTimer = none) :
    Books s (s.startShedding c) :=
  (orderShed_books _).after ((ledgerEvent_reports ..).books.after
    (.of_ledger rfl (fun h => ⟨⟨nofun, nofun⟩, fun k => absurd (hr h) k⟩) nofun))

theorem startShedding_overcommit (c : Half) (s : State) :
    (s.startShedding c).ledger.overcommit = .shedding := orderShed_overcommit _

/-- The stop of the restore timer. -/
theorem stopRestore_books (s : State) :
    Books s { s with ledger := { s.ledger with restoreTimer := none } } :=
  .of_ledger rfl (fun h => ⟨h.1, fun k => absurd rfl k⟩) id

/-- R43 up to the choice between GRACE and SHEDDING: the event, the condition, the end of the pass, and the stop
of the restore timer. -/
def opening (s : State) : State :=
  let t := ((s.ledgerEvent 0 0 s.headroomField).condition overcommitPoint true).endPass
  { t with ledger := { t.ledger with restoreTimer := none } }

theorem openOvercommit_eq (s : State) : s.openOvercommit =
    if (opening s).ledger.raw < (opening s).ledger.measured then (opening s).startShedding 1
    else if (opening s).settings.graceTime = 0 then (opening s).startShedding 3
    else
      { opening s with ledger := { (opening s).ledger with
          overcommit := .grace, graceTimer := some (opening s).graceMs } }.ledgerEvent
        1 0 (u16 (opening s).settings.graceTime) := rfl

theorem opening_books (s : State) : Books s (opening s) :=
  (((ledgerEvent_reports ..).trans (condition_reports ..)).books.trans (endPass_books _)).trans
    (stopRestore_books _)

theorem openOvercommit_books (s : State) : Books s s.openOvercommit := by
  rw [openOvercommit_eq]
  refine (opening_books s).trans (.ite (fun _ => startShedding_books _ fun _ => rfl) fun _ =>
    .ite (fun _ => startShedding_books _ fun _ => rfl) fun _ => ?_)
  exact (ledgerEvent_reports ..).books.after
    (.of_ledger rfl (fun _ => ⟨⟨fun _ => rfl, fun _ => rfl⟩, fun k => absurd rfl k⟩) nofun)

theorem openOvercommit_not_closed (s : State) : s.openOvercommit.ledger.overcommit ≠ .closed := by
  rw [openOvercommit_eq]
  split
  · rw [startShedding_overcommit]; simp
  split
  · rw [startShedding_overcommit]; simp
  · simp [State.ledgerEvent, State.report]

/-- An overcommit closes where headroom is not negative, or no slot is charged (R46, R45). -/
theorem closeOvercommit_books (h : 0 ≤ s.ledger.headroom ∨ anySet s.ledger.charged = false) :
    Books s s.closeOvercommit := by
  have closed : Books s { s with ledger := { s.ledger with overcommit := .closed, graceTimer := none } } :=
    ⟨⟨_, _, _, _, _, rfl, rfl⟩, rfl, fun _ hx => hx, fun hx => hx,
      fun ht => ⟨by simp, fun k => ⟨rfl, (ht.2 k).2⟩⟩, fun _ _ _ => h⟩
  refine (closed.trans ((condition_reports ..).trans (ledgerEvent_reports ..)).books).trans
    (.ite (fun hs => .of_ledger rfl (fun ht => ⟨ht.1, fun _ => ⟨?_, hs.1⟩⟩) id) fun _ => .refl _)
  exact ((condition_reports ..).trans (ledgerEvent_reports ..)).read (·.ledger.overcommit)

theorem overcommitRules_books (s : State) : Books s s.overcommitRules := by
  have noRestore : s.ledger.overcommit ≠ .closed → Timers s.ledger → s.ledger.restoreTimer = none :=
    fun h ht => Classical.not_not.1 fun k => h (ht.2 k).1
  unfold State.overcommitRules
  split
  · exact .ite (fun _ => openOvercommit_books s) fun _ => .refl s
  · next e =>
    exact .ite (fun h => closeOvercommit_books (.inl h)) fun _ =>
      .ite (fun _ => startShedding_books _ (noRestore (by simp [e]))) fun _ => .refl s
  · refine .ite (fun h => closeOvercommit_books (.inl h)) fun _ => .ite (fun _ => .refl s) fun _ =>
      .ite (fun _ => orderShed_books s) fun h => closeOvercommit_books (.inr (by simpa using h))

/-- The overcommit rules leave the headroom clause of the law true, whatever they find (R43, R46). -/
theorem overcommitRules_covered (s : State) : Covered s.overcommitRules := by
  by_cases h : s.ledger.overcommit = .closed ∧ s.ledger.headroom < 0 ∧ anySet s.ledger.charged = true
  · have e : s.overcommitRules = s.openOvercommit := by
      simp [State.overcommitRules, h.1, h.2.1, h.2.2]
    exact fun _ hc => absurd hc (e ▸ openOvercommit_not_closed s)
  · refine (overcommitRules_books s).covered fun _ hc => ?_
    by_contra k
    exact h ⟨hc, by simp at k; omega, by simp at k; exact k.2⟩

/-! ## What a recompute derives -/

/-- The readout set, LEDGER_CLAMP, LOW and HEADROOM_LOW derived from the quantities (R30, R31). -/
def refreshed (l : Ledger) (sc : Scale) : Ledger :=
  let low := decide (l.headroom < l.margin)
  { l with
    readouts := l.readoutSet sc
    saturated := l.saturates sc
    clamp := l.clamp || l.saturates sc
    low := low
    headroomLow := l.headroomLow || low }

/-- Re-deriving readouts and LOW gives the refreshed ledger, a LOW event exactly on a change of LOW, and no change
count but the BAY table's. -/
theorem derive_eq (s : State) : ∃ c,
    s.deriveReadouts.deriveLow = { s with
      ledger := refreshed s.ledger s.settings.scale
      queues := if (refreshed s.ledger s.settings.scale).low = s.ledger.low then s.queues
        else s.queues.map fun q => q.offer .ledger 0 (if (refreshed s.ledger s.settings.scale).low then 8 else 9)
          (s16 (readoutOf s.settings.scale s.ledger.headroom)) s.arbiter.epoch
      counts := c } ∧
    ∀ tb, tb ≠ .bay → look c (Table.idx tb) = look s.counts (Table.idx tb) := by
  have counted : ∀ (c : Prop) [Decidable c] (t : State), (if c then t else t.bump .bay) =
      { t with counts := if c then t.counts else (t.bump .bay).counts } := by
    intro c _ t
    split <;> rfl
  have reported : ∀ (c : Prop) [Decidable c] (t : State) (a x b : Half),
      (if c then t else t.ledgerEvent a x b) =
        { t with queues := if c then t.queues else (t.ledgerEvent a x b).queues } := by
    intro c _ t a x b
    split <;> rfl
  have he : s.deriveReadouts = _ := counted _ _
  refine ⟨s.deriveReadouts.counts, ?_, fun tb h => ?_⟩
  · have hl : s.deriveReadouts.deriveLow = _ := reported _ _ _ _ _
    rw [hl, he]
    rfl
  · rw [he]
    show look (if _ then s.counts else put s.counts _ _) _ = _
    split
    · rfl
    · exact look_put_ne _ _ (by cases tb <;> simp_all [Table.idx])

/-- The ledger's own quantities of supply are those of the present bays and policy (R26, R27, R30). -/
def SupplyKnown (s : State) : Prop :=
  let cap := capacityOf s.settings.policy (s.bays.map BayEntry.counts) (s.bays.map supplyFigure)
  s.ledger.available = cap.1 ∧ s.ledger.redundancyLost = cap.2 ∧
    s.ledger.raw = (s.bays.map supplyFigure).toList.sum ∧
    s.ledger.readouts.available = readoutOf s.settings.scale cap.1

/-- What a recompute may do: only the ledger, the agenda and reports change, the charged slots and the shed set
do not, orders are added and none is lost, and the laws of timers, headroom and supply are kept. -/
structure Accounts (s t : State) : Prop where
  frame : ∃ l g a q c, SameQueues s.queues q ∧
    t = { s with ledger := l, agenda := g, alarms := a, queues := q, counts := c }
  charged : t.ledger.charged = s.ledger.charged
  shedSet : t.ledger.shedSet = s.ledger.shedSet
  tasks : ∀ x ∈ s.agenda, x ∈ t.agenda
  timers : Timers s.ledger → Timers t.ledger
  covered : Covered s → Covered t
  supply : SupplyKnown s → SupplyKnown t

theorem Accounts.trans (h : Accounts s t) (k : Accounts t u) : Accounts s u where
  frame := by
    obtain ⟨_, _, _, _, _, hq, rfl⟩ := h.frame
    obtain ⟨_, _, _, _, _, kq, rfl⟩ := k.frame
    exact ⟨_, _, _, _, _, kq.trans hq, rfl⟩
  charged := k.charged.trans h.charged
  shedSet := k.shedSet.trans h.shedSet
  tasks x hx := k.tasks x (h.tasks x hx)
  timers ht := k.timers (h.timers ht)
  covered hc := k.covered (h.covered hc)
  supply hs := k.supply (h.supply hs)

theorem SupplyKnown.of_figures (hs : t.settings = s.settings) (hb : t.bays = s.bays)
    (hf : figures t.ledger = figures s.ledger) (h : SupplyKnown s) : SupplyKnown t := by
  have e₁ : t.ledger.available = s.ledger.available := figures_read (·.available) hf
  have e₂ : t.ledger.redundancyLost = s.ledger.redundancyLost := figures_read (·.redundancyLost) hf
  have e₃ : t.ledger.raw = s.ledger.raw := figures_read (·.raw) hf
  have e₄ : t.ledger.readouts = s.ledger.readouts := figures_read (·.readouts) hf
  simpa only [SupplyKnown, hs, hb, e₁, e₂, e₃, e₄] using h

theorem Books.accounts (h : Books s t) : Accounts s t where
  frame := h.frame
  charged := figures_read (·.charged) h.figures
  shedSet := figures_read (·.shedSet) h.figures
  tasks := h.tasks
  timers := h.timers
  covered := h.covered
  supply := by
    have hs : t.settings = s.settings := by obtain ⟨_, _, _, _, _, -, e⟩ := h.frame; rw [e]
    have hb : t.bays = s.bays := by obtain ⟨_, _, _, _, _, -, e⟩ := h.frame; rw [e]
    exact .of_figures hs hb h.figures

theorem Accounts.refl (s : State) : Accounts s s := (Books.refl s).accounts

theorem hand_accounts (x : Task) (s : State) : Accounts s (s.hand x) := by
  have tasks : ∀ y ∈ s.agenda, y ∈ (s.hand x).agenda := fun y hy => mem_hand.2 (.inl hy)
  obtain ⟨g, e⟩ := hand_frame x s
  rw [e] at tasks ⊢
  exact ⟨⟨_, _, _, _, _, rfl, rfl⟩, rfl, rfl, tasks, fun ht => ht, fun hc => hc, fun hs => hs⟩

/-- The steps of R29 up to the overcommit rules, on a ledger that holds the stages. -/
def derived (s : State) : State :=
  let t := s.deriveReadouts.deriveLow
  (t.condition redundancyLostPoint t.ledger.redundancyLost).overcommitRules

theorem ledgerSteps_eq (prev : Int) (s : State) : s.ledgerSteps prev =
    if (derived s).ledger.overcommit = .closed ∧ prev < (derived s).ledger.headroom then
      ((derived s).hand .headroom).passRule
    else derived s := rfl

theorem derive_reports (s : State) :
    Reports { s with ledger := refreshed s.ledger s.settings.scale } s.deriveReadouts.deriveLow := by
  obtain ⟨c, e, -⟩ := derive_eq s
  rw [e]
  refine ⟨_, _, _, ?_, rfl⟩
  split
  · rfl
  · exact (map_eq_iff ..).2 fun i => by rw [look_map, offer_lasting]

/-- The rules after the readouts find the refreshed ledger. -/
theorem derived_books (s : State) :
    Books { s with ledger := refreshed s.ledger s.settings.scale } (derived s) :=
  ((derive_reports s).trans (condition_reports ..)).books.trans (overcommitRules_books _)

theorem derived_figures (s : State) :
    figures (derived s).ledger = figures (refreshed s.ledger s.settings.scale) := (derived_books s).figures

theorem ledgerSteps_figures (prev : Int) (s : State) :
    figures (s.ledgerSteps prev).ledger = figures (refreshed s.ledger s.settings.scale) := by
  rw [ledgerSteps_eq]
  split
  · obtain ⟨g, e⟩ := hand_frame .headroom (derived s)
    exact (passRule_books _).figures.trans (e ▸ derived_figures s)
  · exact derived_figures s

theorem derived_covered (s : State) : Covered (derived s) := overcommitRules_covered _

/-- The steps of R29 leave the headroom clause true, whatever they find. -/
theorem ledgerSteps_covered (prev : Int) (s : State) : Covered (s.ledgerSteps prev) := by
  rw [ledgerSteps_eq]
  split
  · exact (passRule_books _).covered ((hand_accounts _ _).covered (derived_covered s))
  · exact derived_covered s

theorem ledgerSteps_timers (prev : Int) (s : State) (h : Timers s.ledger) :
    Timers (s.ledgerSteps prev).ledger := by
  have hd : Timers (derived s).ledger := (derived_books s).timers h
  rw [ledgerSteps_eq]
  split
  · exact (passRule_books _).timers ((hand_accounts _ _).timers hd)
  · exact hd

theorem ledgerSteps_tasks (prev : Int) (s : State) : ∀ x ∈ s.agenda, x ∈ (s.ledgerSteps prev).agenda := by
  intro x hx
  have hd : x ∈ (derived s).agenda := (derived_books s).tasks x hx
  rw [ledgerSteps_eq]
  split
  · exact (passRule_books _).tasks x (mem_hand.2 (.inl hd))
  · exact hd

theorem ledgerSteps_frame (prev : Int) (s : State) : ∃ l g a q c, SameQueues s.queues q ∧
    s.ledgerSteps prev = { s with ledger := l, agenda := g, alarms := a, queues := q, counts := c } := by
  obtain ⟨l, g, a, q, c, hq, e⟩ := (derived_books s).frame
  rw [ledgerSteps_eq]
  split
  · obtain ⟨l', g', a', q', c', kq, k⟩ :=
      ((hand_accounts .headroom (derived s)).trans (passRule_books _).accounts).frame
    rw [k, e]
    rw [e] at kq
    exact ⟨_, _, _, _, _, kq.trans hq, rfl⟩
  · rw [e]
    exact ⟨_, _, _, _, _, hq, rfl⟩

theorem passRule_overcommit (s : State) : s.passRule.ledger.overcommit = s.ledger.overcommit := by
  have start : s.startPass.ledger.overcommit = s.ledger.overcommit := by
    obtain ⟨g, e⟩ := hand_frame .restore
      (({ s with ledger := { s.ledger with pass := some ⟨s.ledger.shedSet, none⟩ } }.ledgerEvent 5 0
        s.headroomField))
    rw [State.startPass, e]
    rfl
  unfold State.passRule
  split
  · split
    · exact start
    · rfl
  · rfl

theorem ledgerSteps_overcommit (prev : Int) (s : State) :
    (s.ledgerSteps prev).ledger.overcommit = (derived s).ledger.overcommit := by
  rw [ledgerSteps_eq]
  split
  · obtain ⟨g, e⟩ := hand_frame .headroom (derived s)
    rw [passRule_overcommit, e]
  · rfl

/-- The notice of step 5 of R29. -/
theorem headroom_mem_ledgerSteps (prev : Int) (s : State) : Task.headroom ∈ (s.ledgerSteps prev).agenda ↔
    Task.headroom ∈ s.agenda ∨
      ((s.ledgerSteps prev).ledger.overcommit = .closed ∧ prev < (s.ledgerSteps prev).ledger.headroom) := by
  have hd : Task.headroom ∈ (derived s).agenda ↔ Task.headroom ∈ s.agenda :=
    ⟨(derived_books s).notice, (derived_books s).tasks _⟩
  have same : (s.ledgerSteps prev).ledger.overcommit = (derived s).ledger.overcommit ∧
      (s.ledgerSteps prev).ledger.headroom = (derived s).ledger.headroom :=
    ⟨ledgerSteps_overcommit prev s, (ledgerSteps_figures prev s).trans (derived_figures s).symm |>
      figures_read (·.headroom)⟩
  rw [same.1, same.2, ledgerSteps_eq]
  split
  · next h =>
    exact ⟨fun _ => .inr h, fun _ => (passRule_books _).tasks _ (mem_hand.2 (.inr rfl))⟩
  · next h => rw [hd]; exact ⟨.inl, fun k => k.resolve_right h⟩

theorem recompute_of_starting (h : s.dev.phase = .starting) : s.recompute = s := by
  simp [State.recompute, State.starting, h]

theorem recompute_of_running (h : s.dev.phase = .running) :
    s.recompute = State.ledgerSteps s.ledger.headroom { s with ledger := s.ledgerStages } := by
  simp [State.recompute, State.starting, h]

/-- Every recompute that computes leaves the supply quantities of the present bays. -/
theorem ledgerSteps_supply (prev : Int) (s : State) :
    SupplyKnown (State.ledgerSteps prev { s with ledger := s.ledgerStages }) := by
  have hf := ledgerSteps_figures prev { s with ledger := s.ledgerStages }
  obtain ⟨l, g, a, q, c, -, e⟩ := ledgerSteps_frame prev { s with ledger := s.ledgerStages }
  rw [e] at hf ⊢
  exact SupplyKnown.of_figures
    (s := { s with ledger := refreshed s.ledgerStages s.settings.scale }) rfl rfl hf ⟨rfl, rfl, rfl, rfl⟩

/-- The steps of R29 on the stages of a state (R49 and R25). -/
theorem ledgerSteps_accounts (prev : Int) (s : State) :
    Accounts s (State.ledgerSteps prev { s with ledger := s.ledgerStages }) where
  frame := by
    obtain ⟨l, g, a, q, c, h⟩ := ledgerSteps_frame prev { s with ledger := s.ledgerStages }
    exact ⟨l, g, a, q, c, h⟩
  charged := (figures_read (·.charged)
    (ledgerSteps_figures prev { s with ledger := s.ledgerStages })).trans rfl
  shedSet := (figures_read (·.shedSet)
    (ledgerSteps_figures prev { s with ledger := s.ledgerStages })).trans rfl
  tasks := ledgerSteps_tasks prev { s with ledger := s.ledgerStages }
  timers := ledgerSteps_timers prev { s with ledger := s.ledgerStages }
  covered _ := ledgerSteps_covered prev _
  supply _ := ledgerSteps_supply prev s

theorem recompute_accounts (s : State) : Accounts s s.recompute := by
  cases h : s.dev.phase with
  | starting => rw [recompute_of_starting h]; exact .refl s
  | running => rw [recompute_of_running h]; exact ledgerSteps_accounts _ s

/-- A recompute in RUNNING makes the headroom clause true, whatever it finds. -/
theorem recompute_covered (s : State) : Covered s.recompute := by
  cases h : s.dev.phase with
  | starting => rw [recompute_of_starting h]; exact fun k => absurd (h.symm.trans k) (by decide)
  | running => rw [recompute_of_running h]; exact ledgerSteps_covered _ _

end Sys2Proof.Power
end

section
/-! What the port manager, the pool, the zoning engine and the scheduler leave as it stands when a notice or an
order reaches them: everything the laws of power and cooling read, and, while no unit, admin state or content is
edited, `State.lasting`. -/

namespace Sys2Proof.Power
open Sys2Proof Sys2Proof.Machine

/-! ## The relations -/

/-- What the laws of settings, cooling, power and shutdown read of a state, but for the ledger's accounts and the
orders waiting. -/
structure View where
  phase : Phase
  settings : Settings
  config : Option ConfigImage
  write : Option Write
  latches : Vector Latches 3
  state : Slot → SlotState
  held : Slot → Option HeldBlade
  tray : Tray → TrayState × Nat
  zone : AirZone → TempState × Nat
  charged : Vector Bool 8
  shedSet : Vector Bool 8

def view (s : State) : View where
  phase := s.dev.phase
  settings := s.settings
  config := s.store.config
  write := s.store.write
  latches := s.arbiter.latches
  state sl := (s.slotAt sl).state
  held sl := (s.auxAt sl).held
  tray tr := ((s.trayAt tr).state, (s.trayAt tr).duty)
  zone z := ((s.zoneAt z).temp, (s.zoneAt z).demand)
  charged := s.ledger.charged
  shedSet := s.ledger.shedSet

/-- A piece of work that the laws of this family do not notice: it changes nothing they read, loses no order, and
keeps the law of timers and headroom. -/
structure Works (s t : State) : Prop where
  view : view t = view s
  orders : ∀ x ∈ s.agenda, x ≠ .headroom → x ∈ t.agenda
  timers : Timers s.ledger → Timers t.ledger
  covered : Covered s → Covered t

/-- Such work done for a notice or order: `State.lasting` and the supply quantities are kept with it. -/
structure Serves (s t : State) : Prop extends Works s t where
  lasting : t.lasting = s.lasting
  supply : SupplyKnown s → SupplyKnown t

variable {s t u : State}

theorem Works.refl (s : State) : Works s s := ⟨rfl, fun _ h _ => h, id, id⟩

theorem Works.trans (h : Works s t) (k : Works t u) : Works s u where
  view := k.view.trans h.view
  orders x hx hn := k.orders x (h.orders x hx hn) hn
  timers ht := k.timers (h.timers ht)
  covered hc := k.covered (h.covered hc)

theorem Works.after (k : Works t u) (h : Works s t) : Works s u := h.trans k

theorem Works.ite {c : Prop} [Decidable c] (ht : c → Works s t) (hu : ¬c → Works s u) :
    Works s (if c then t else u) := by
  split
  · exact ht ‹_›
  · exact hu ‹_›

theorem Works.foldl {ι : Type} {f : State → ι → State} (hf : ∀ t i, Works t (f t i)) (l : List ι)
    (s : State) : Works s (l.foldl f s) := by
  induction l generalizing s with
  | nil => exact .refl s
  | cons i l ih => exact (hf s i).trans (ih _)

theorem Serves.refl (s : State) : Serves s s := ⟨.refl s, rfl, id⟩

theorem Serves.trans (h : Serves s t) (k : Serves t u) : Serves s u where
  toWorks := h.toWorks.trans k.toWorks
  lasting := k.lasting.trans h.lasting
  supply hs := k.supply (h.supply hs)

theorem Serves.after (k : Serves t u) (h : Serves s t) : Serves s u := h.trans k

theorem Serves.ite {c : Prop} [Decidable c] (ht : c → Serves s t) (hu : ¬c → Serves s u) :
    Serves s (if c then t else u) := by
  split
  · exact ht ‹_›
  · exact hu ‹_›

theorem Serves.foldl {ι : Type} {f : State → ι → State} (hf : ∀ t i, Serves t (f t i)) (l : List ι)
    (s : State) : Serves s (l.foldl f s) := by
  induction l generalizing s with
  | nil => exact .refl s
  | cons i l ih => exact (hf s i).trans (ih _)

/-- A change outside what the laws read, the ledger and the agenda. -/
theorem Works.of_view (hv : Power.view t = Power.view s) (hl : t.ledger = s.ledger) (ha : t.agenda = s.agenda) :
    Works s t where
  view := hv
  orders x hx _ := ha ▸ hx
  timers ht := hl ▸ ht
  covered hc := by
    have hp : t.dev.phase = s.dev.phase := congrArg View.phase hv
    simpa only [Covered, hp, hl] using hc

/-- What `State.lasting` keeps as it is agrees on states that have it in common. -/
theorem read_lasting {α : Type} (f : State → α) (h : t.lasting = s.lasting)
    (hf : ∀ s, f (State.lasting s) = f s := by intro; rfl) : f t = f s :=
  (hf t).symm.trans ((congrArg f h).trans (hf s))

theorem Serves.of_lasting (hv : Power.view t = Power.view s) (hs : t.lasting = s.lasting) (hl : t.ledger = s.ledger)
    (ha : t.agenda = s.agenda) : Serves s t :=
  ⟨.of_view hv hl ha, hs,
    .of_figures (read_lasting (·.settings) hs) (read_lasting (·.bays) hs) (congrArg Power.figures hl)⟩

theorem lasting_queues {q : Vector EventQueue 3} (hq : SameQueues s.queues q) :
    State.lasting { s with queues := q } = s.lasting :=
  congrArg (fun q => { s.lasting with queues := q }) hq

theorem Reports.serves (h : Reports s t) : Serves s t := by
  obtain ⟨a, q, c, hq, rfl⟩ := h
  exact .of_lasting rfl (lasting_queues hq) rfl rfl

theorem Reports.works (h : Reports s t) : Works s t := h.serves.toWorks

theorem Accounts.serves (h : Accounts s t) : Serves s t := by
  have hc := h.charged
  have hs := h.shedSet
  have tasks := h.tasks
  have timers := h.timers
  have covered := h.covered
  have supply := h.supply
  obtain ⟨l, g, a, q, c, hq, rfl⟩ := h.frame
  refine ⟨⟨?_, fun x hx _ => tasks x hx, timers, covered⟩, lasting_queues hq, supply⟩
  exact congrArg₂ (fun c d => { view s with charged := c, shedSet := d }) hc hs

theorem Books.serves (h : Books s t) : Serves s t := h.accounts.serves

theorem recompute_serves (s : State) : Serves s s.recompute := (recompute_accounts s).serves

theorem hand_serves (x : Task) (s : State) : Serves s (s.hand x) := (hand_accounts x s).serves

/-! ## Slots, trays and rows replaced -/

@[simp] theorem slotAt_put (s : State) (i j : Slot) (e : SlotEntry) :
    State.slotAt { s with slots := put s.slots i e } j = if j = i then e else s.slotAt j := look_put ..

@[simp] theorem auxAt_put (s : State) (i j : Slot) (e : SlotAux) :
    State.auxAt { s with aux := put s.aux i e } j = if j = i then e else s.auxAt j := look_put ..

@[simp] theorem trayAt_put (s : State) (i j : Tray) (e : TrayEntry) :
    State.trayAt { s with trays := put s.trays i e } j = if j = i then e else s.trayAt j := look_put ..

theorem view_putSlot {i : Slot} {e : SlotEntry} (h : e.state = (s.slotAt i).state) :
    view { s with slots := put s.slots i e } = view s := by
  refine congrArg (fun f => { view s with state := f }) (funext fun j => ?_)
  rw [slotAt_put]
  split
  · next hj => rw [h, hj]
  · rfl

theorem view_putAux {i : Slot} {e : SlotAux} (h : e.held = (s.auxAt i).held) :
    view { s with aux := put s.aux i e } = view s := by
  refine congrArg (fun f => { view s with held := f }) (funext fun j => ?_)
  rw [auxAt_put]
  split
  · next hj => rw [h, hj]
  · rfl

theorem view_putTray {i : Tray} {e : TrayEntry} (hs : e.state = (s.trayAt i).state)
    (hd : e.duty = (s.trayAt i).duty) : view { s with trays := put s.trays i e } = view s := by
  refine congrArg (fun f => { view s with tray := f }) (funext fun j => ?_)
  rw [trayAt_put]
  split
  · next hj => rw [hs, hd, hj]
  · rfl

theorem lasting_putSlot {i : Slot} {e : SlotEntry} (h : e.lasting = (s.slotAt i).lasting) :
    State.lasting { s with slots := put s.slots i e } = s.lasting :=
  congrArg (fun v => { s.lasting with slots := v }) (map_put_same _ _ _ _ h)

theorem lasting_putAux {i : Slot} {e : SlotAux} (h : e.lasting = (s.auxAt i).lasting) :
    State.lasting { s with aux := put s.aux i e } = s.lasting :=
  congrArg (fun v => { s.lasting with aux := v }) (map_put_same _ _ _ _ h)

theorem lasting_putRow {p : Port} {r : Row} (h : r.lasting = (s.rowAt p).lasting) :
    State.lasting { s with rows := put s.rows p.slot (put (look s.rows p.slot) p.idx r) } = s.lasting :=
  congrArg (fun v => { s.lasting with rows := v }) (map_put_same _ _ _ _ (map_put_same _ _ _ _ h))

/-- A slot's entry replaced, its state kept. -/
theorem setSlot_works {i : Slot} {e : SlotEntry} (h : e.state = (s.slotAt i).state) : Works s (s.setSlot i e) :=
  (setSlot_reports i e s).works.after (.of_view (view_putSlot h) rfl rfl)

theorem setSlot_serves {i : Slot} {e : SlotEntry} (h : e.state = (s.slotAt i).state)
    (hl : e.lasting = (s.slotAt i).lasting) : Serves s (s.setSlot i e) :=
  (setSlot_reports i e s).serves.after (.of_lasting (view_putSlot h) (lasting_putSlot hl) rfl rfl)

theorem setAux_works {i : Slot} {a : SlotAux} (h : a.held = (s.auxAt i).held) : Works s (s.setAux i a) :=
  .of_view (view_putAux h) rfl rfl

theorem setAux_serves {i : Slot} {a : SlotAux} (h : a.held = (s.auxAt i).held)
    (hm : a.matched = (s.auxAt i).matched) : Serves s (s.setAux i a) :=
  .of_lasting (view_putAux h) (lasting_putAux (by simp only [SlotAux.lasting, h, hm])) rfl rfl

theorem setTray_works {i : Tray} {e : TrayEntry} (hs : e.state = (s.trayAt i).state)
    (hd : e.duty = (s.trayAt i).duty) : Works s (s.setTray i e) :=
  (setTray_reports i e s).works.after (.of_view (view_putTray hs hd) rfl rfl)

theorem setCtl_works (pos : Position) (c : PosCtl) (s : State) : Works s (s.setCtl pos c) :=
  .of_view rfl rfl rfl

theorem setTrayAux_works (tr : Tray) (a : TrayAux) (s : State) : Works s (s.setTrayAux tr a) :=
  .of_view rfl rfl rfl

theorem setCp_works (c : Cp) (e : CpEntry) (s : State) : Works s (s.setCp c e) :=
  (setCp_reports c e s).works.after (.of_view rfl rfl rfl)

theorem setBay_works (b : Bay) (e : BayEntry) (s : State) : Works s (s.setBay b e) :=
  (setBay_reports b e s).works.after (.of_view rfl rfl rfl)

theorem setLink_works (l : LinkId) (k : Link) (s : State) : Works s (s.setLink l k) := .of_view rfl rfl rfl

theorem respond_works (l : LinkId) (tag : Byte) (st : Status) (r : Results) (s : State) :
    Works s (s.respond l tag st r) := setLink_works ..

theorem markDirty_works (x : StoreSection) (s : State) : Works s (s.markDirty x) := .of_view rfl rfl rfl

/-! ## The scheduler -/

/-- The scheduler's own changes. -/
theorem bus_serves (b : Bus) (s : State) : Serves s { s with bus := b } := .of_lasting rfl rfl rfl rfl

theorem kickBus_frame (s : State) : ∃ b, s.kickBus = { s with bus := b } := by
  unfold State.kickBus
  split
  · exact ⟨_, rfl⟩
  · split <;> exact ⟨_, rfl⟩

theorem kickBus_serves (s : State) : Serves s s.kickBus := by
  obtain ⟨b, e⟩ := kickBus_frame s
  exact e ▸ bus_serves b s

theorem enqueue_frame (x : Txn) (s : State) : ∃ b, s.enqueue x = { s with bus := b } := by
  obtain ⟨b, e⟩ := kickBus_frame { s with bus := { s.bus with waiting := joinQueue x s.bus.waiting } }
  exact ⟨b, e⟩

theorem enqueue_serves (x : Txn) (s : State) : Serves s (s.enqueue x) := by
  obtain ⟨b, e⟩ := enqueue_frame x s
  exact e ▸ bus_serves b s

theorem withdrawAll_serves (pos : Position) (s : State) : Serves s (s.withdrawAll pos) := bus_serves ..

theorem withdrawPower_serves (sl : Slot) (s : State) : Serves s (s.withdrawPower sl) := bus_serves ..

theorem freeBus_serves (s : State) : Serves s s.freeBus := (kickBus_serves _).after (bus_serves _ s)

theorem queuePoll_serves (pos : Position) (s : State) : Serves s (s.queuePoll pos) := enqueue_serves ..

theorem queuePush_serves (sl : Slot) (s : State) : Serves s (s.queuePush sl) := enqueue_serves ..

/-! ## Rows -/

/-- Notices of the pool: its count of waiting rows and its deficit change, with reports. -/
def Waits (s t : State) : Prop :=
  ∃ w d a q c, SameQueues s.queues q ∧ t = { s with
    pool := { s.pool with waiting := w, deficit := d }, alarms := a, queues := q, counts := c }

theorem Waits.trans (h : Waits s t) (k : Waits t u) : Waits s u := by
  obtain ⟨_, _, _, _, _, hq, rfl⟩ := h
  obtain ⟨_, _, _, _, _, kq, rfl⟩ := k
  exact ⟨_, _, _, _, _, kq.trans hq, rfl⟩

theorem Reports.waits (h : Reports s t) : Waits s t := by
  obtain ⟨a, q, c, hq, rfl⟩ := h
  exact ⟨_, _, _, _, _, hq, rfl⟩

theorem Waits.ite {c : Prop} [Decidable c] (ht : Waits s t) (hu : Waits s u) :
    Waits s (if c then t else u) := by
  split
  · exact ht
  · exact hu

theorem Waits.serves (h : Waits s t) : Serves s t := by
  obtain ⟨w, d, a, q, c, hq, rfl⟩ := h
  exact .of_lasting rfl (lasting_queues hq) rfl rfl

theorem evalDeficit_waits (s : State) : Waits s s.evalDeficit := by
  have h : Waits s { s with pool := { s.pool with deficit := decide (0 < s.pool.waiting) } } :=
    ⟨_, _, _, _, _, rfl, rfl⟩
  exact .ite h (h.trans (condition_reports ..).waits)

theorem evalDeficit_serves (s : State) : Serves s s.evalDeficit := (evalDeficit_waits s).serves

theorem setWaiting_waits (n : Nat) (s : State) : Waits s (s.setWaiting n) := by
  have h : Waits s { s with pool := { s.pool with waiting := n } } := ⟨_, _, _, _, _, rfl, rfl⟩
  exact .ite h (h.trans (evalDeficit_waits _))

/-- Writing a row is replacing it, with notices to the event distributor and the pool. -/
theorem writeRow_waits (p : Port) (r : Row) (s : State) :
    Waits { s with rows := put s.rows p.slot (put (look s.rows p.slot) p.idx r) } (s.writeRow p r) := by
  have event : Waits (s.setRow p r) (if r.cond = (s.rowAt p).cond then s.setRow p r
      else (s.setRow p r).report .portState (u16 (Port.global p)) (condCode r.cond) (reasonCode r.cond)) :=
    .ite (Reports.refl _).waits (report_reports ..).waits
  exact ((setRow_reports p r s).waits.trans event).trans
    (.ite (Reports.refl _).waits (.ite (setWaiting_waits ..) (setWaiting_waits ..)))

theorem writeRow_serves_put (p : Port) (r : Row) (s : State) :
    Serves { s with rows := put s.rows p.slot (put (look s.rows p.slot) p.idx r) } (s.writeRow p r) :=
  (writeRow_waits p r s).serves

theorem rowAt_put (s : State) (p q : Port) (r : Row) :
    State.rowAt { s with rows := put s.rows p.slot (put (look s.rows p.slot) p.idx r) } q =
      if q = p then r else s.rowAt q := by
  obtain ⟨psl, pk⟩ := p
  obtain ⟨qsl, qk⟩ := q
  by_cases hs : qsl = psl
  · subst hs
    by_cases hk : qk = pk <;> simp [State.rowAt, look_put, hk]
  · simp [State.rowAt, look_put, hs]

theorem writeRow_works (p : Port) (r : Row) (s : State) : Works s (s.writeRow p r) :=
  (writeRow_serves_put p r s).toWorks.after (.of_view rfl rfl rfl)

theorem writeRow_serves {p : Port} {r : Row} (h : r.lasting = (s.rowAt p).lasting) :
    Serves s (s.writeRow p r) :=
  (writeRow_serves_put p r s).after (.of_lasting rfl (lasting_putRow h) rfl rfl)

theorem setCond_serves (p : Port) (c : RowCond) (s : State) : Serves s (s.setCond p c) := writeRow_serves rfl

theorem setUnit_works (p : Port) (x : UnitState) (s : State) : Works s (s.setUnit p x) := writeRow_works ..

/-- The unit of an enabled row is none of what lasts. -/
theorem setUnit_serves {p : Port} (h : (s.rowAt p).admin = true) (x : UnitState) :
    Serves s (s.setUnit p x) := writeRow_serves (by simp [Row.lasting, h])

theorem relabel_serves (p : Port) (s : State) : Serves s (s.relabel p) := by
  unfold State.relabel
  split
  · exact setCond_serves ..
  · exact .refl s

theorem portCommand_serves (p : Port) (v : Bool) (s : State) : Serves s (s.portCommand p v) :=
  .ite (fun _ => enqueue_serves ..) fun _ => .refl s

theorem bringUp_serves (p : Port) (s : State) : Serves s (s.bringUp p) :=
  (portCommand_serves ..).after ((setCond_serves ..).after ((recompute_serves _).after (writeRow_serves rfl)))

theorem goDown_serves (p : Port) (r : DownReason) (s : State) : Serves s (s.goDown p r) :=
  (portCommand_serves ..).after ((recompute_serves _).after (writeRow_serves rfl))

/-! ## Evaluating rows, and the walks (R95, R98, R99) -/

theorem askPower_serves {p : Port} (h : (s.rowAt p).admin = true) (taken : Bool) :
    Serves s (s.askPower p taken) :=
  .ite (fun _ => bringUp_serves ..) fun _ => (setCond_serves ..).after
    (.ite (fun _ => setUnit_serves h _) fun _ => .refl s)

theorem evaluate_serves (p : Port) (s : State) : Serves s (s.evaluate p) := by
  unfold State.evaluate
  split
  · split
    · exact setCond_serves ..
    · next hf =>
      have ha := firstFail_admin hf
      split
      · split
        · exact setCond_serves ..
        · refine (setUnit_serves ha _).trans (askPower_serves ?_ true)
          rw [State.setUnit, rowAt_writeRow, if_pos rfl]
          exact ha
        · exact askPower_serves ha _
      · exact askPower_serves ha _
  · exact .refl s

theorem walkOver_serves (ps : List Port) (f : State → Port → Bool) (s : State) :
    Serves s (s.walkOver ps f) :=
  .foldl (fun _ _ => .ite (fun _ => evaluate_serves ..) fun _ => .refl _) ps s

theorem headroomWalk_serves (out : List Port) (s : State) : Serves s (s.headroomWalk out) :=
  walkOver_serves ..

/-- Taking the pending headroom notice off the agenda loses no order. -/
theorem takeNotice_serves (s : State) : Serves s { s with agenda := s.agenda.erase .headroom } where
  view := rfl
  orders _ hx hn := (List.mem_erase_of_ne hn).2 hx
  timers := id
  covered := id
  lasting := rfl
  supply := id

theorem serveNotices_serves (out : List Port) (n : Nat) (s : State) : Serves s (s.serveNotices out n) := by
  induction n generalizing s with
  | zero => exact .refl s
  | succ n ih =>
    exact .ite (fun _ => ((takeNotice_serves s).trans (headroomWalk_serves ..)).trans (ih _)) fun _ => .refl s

theorem serveBut_serves (out : List Port) (s : State) : Serves s (s.serveBut out) := serveNotices_serves ..

theorem serve_serves (s : State) : Serves s s.serve := serveBut_serves ..

theorem recomputeNow_serves (s : State) : Serves s s.recomputeNow := (recompute_serves s).trans (serve_serves _)

theorem walk_serves (ps : List Port) (f : State → Port → Bool) (s : State) : Serves s (s.walk ps f) :=
  (walkOver_serves ps f s).trans (serve_serves _)

theorem availabilityWalk_serves (s : State) : Serves s s.availabilityWalk := walk_serves ..

theorem completionWalk_serves (s : State) : Serves s s.completionWalk := walk_serves ..

theorem availability_serves (s : State) : Serves s s.availability :=
  .ite (fun _ => availabilityWalk_serves s) fun _ => .refl s

theorem startsAdmitting_serves (sl : Slot) (s : State) : Serves s (s.startsAdmitting sl) :=
  (walk_serves ..).after (setAux_serves rfl rfl)

theorem stopsAdmitting_serves (sl : Slot) (s : State) : Serves s (s.stopsAdmitting sl) := by
  refine (Serves.foldl (fun t p => ?_) _ _).after (setAux_serves rfl rfl)
  split
  · exact (goDown_serves ..).trans (serve_serves _)
  · exact (goDown_serves ..).trans (serve_serves _)
  · exact relabel_serves ..

theorem bladePowered_serves (sl : Slot) (s : State) : Serves s (s.bladePowered sl) :=
  (walk_serves ..).after (setAux_serves rfl rfl)

theorem bladeOff_serves (sl : Slot) (s : State) : Serves s (s.bladeOff sl) := by
  refine (Serves.foldl (fun t p => ?_) _ _).after (setAux_serves rfl rfl)
  split
  · exact .refl t
  · exact writeRow_serves rfl

/-! ## Enforcement (R131 to R139) -/

theorem setEnforcement_serves (sl : Slot) (e : Enforcement) (n : Nat) (c : EnforceCause) (s : State) :
    Serves s (s.setEnforcement sl e n c) := by
  have h : Serves s (s.setSlot sl { s.slotAt sl with enforcement := e, attempt := n }) :=
    setSlot_serves rfl rfl
  exact .ite (fun _ => h) fun _ => (h.trans (report_reports ..).serves).trans
    (.ite (fun _ => .refl _) fun _ => (condition_reports ..).serves)

theorem setRepush_serves (sl : Slot) (x : Option Nat) (s : State) : Serves s (s.setRepush sl x) :=
  setAux_serves rfl rfl

theorem startPush_serves (sl : Slot) (c : EnforceCause) (s : State) : Serves s (s.startPush sl c) :=
  (setEnforcement_serves ..).trans (queuePush_serves ..)

theorem finishCommit_serves (s : State) : Serves s s.finishCommit :=
  (report_reports ..).serves.after (.of_lasting rfl rfl rfl rfl)

theorem endDistribution_serves (s : State) : Serves s s.endDistribution :=
  .ite (fun _ => (finishCommit_serves s).trans (completionWalk_serves _)) fun _ => .refl s

theorem leaveWaitSet_serves (sl : Slot) (s : State) : Serves s (s.leaveWaitSet sl) :=
  .ite (fun _ => (endDistribution_serves _).after (.of_lasting rfl rfl rfl rfl)) fun _ => .refl s

theorem pushCurrent_serves (sl : Slot) (s : State) : Serves s (s.pushCurrent sl) :=
  (setEnforcement_serves ..).trans
    (.ite (fun _ => leaveWaitSet_serves ..) fun _ => startsAdmitting_serves ..)

theorem pushStale_serves (sl : Slot) (s : State) : Serves s (s.pushStale sl) := by
  have h := (setEnforcement_serves sl .stale 0 .retryFailed s).trans
    (setRepush_serves sl (some Config.repushMs) _)
  exact .ite (fun _ => (h.trans (stopsAdmitting_serves ..)).trans (leaveWaitSet_serves ..)) fun _ => h

theorem pushOutcome_serves (sl : Slot) (w : Word) (r : Option Word) (s : State) :
    Serves s (s.pushOutcome sl w r) := by
  have again : ∀ n, Serves s ((s.setSlot sl { s.slotAt sl with attempt := n }).queuePush sl) := fun n =>
    (queuePush_serves ..).after (setSlot_serves rfl rfl)
  have pending : Serves s (if decide (r = some w) then
      if w = s.zoning.activeGen then s.pushCurrent sl
      else (s.setSlot sl { s.slotAt sl with attempt := 1 }).queuePush sl
    else if (s.slotAt sl).attempt ≤ 1 then (s.setSlot sl { s.slotAt sl with attempt := 2 }).queuePush sl
    else s.pushStale sl) :=
    .ite (fun _ => .ite (fun _ => pushCurrent_serves ..) fun _ => again 1) fun _ =>
      .ite (fun _ => again 2) fun _ => pushStale_serves ..
  unfold State.pushOutcome
  dsimp only
  split
  · exact pending
  · exact pending
  · exact .ite
      (fun _ => .ite (fun _ => (pushCurrent_serves ..).trans (setRepush_serves ..)) fun _ =>
        (setRepush_serves ..).trans (queuePush_serves ..))
      fun _ => setRepush_serves ..
  · exact .refl s

theorem enforcePowerUp_serves (sl : Slot) (c : EnforceCause) (s : State) : Serves s (s.enforcePowerUp sl c) :=
  .ite (fun _ => startPush_serves ..) fun _ => setEnforcement_serves ..

theorem enforceOff_serves (sl : Slot) (s : State) : Serves s (s.enforceOff sl) :=
  Serves.after (leaveWaitSet_serves ..)
    (Serves.after (setAux_serves rfl rfl) (setEnforcement_serves sl .none 0 .power s))

theorem compareHeld_serves (sl : Slot) (w : Option Word) (s : State) : Serves s (s.compareHeld sl w) :=
  .ite (fun _ => (startPush_serves ..).trans (stopsAdmitting_serves ..)) fun _ => .refl s

theorem judgeKept_serves (sl : Slot) (w : Option Word) (s : State) : Serves s (s.judgeKept sl w) :=
  .ite (fun _ => (setEnforcement_serves ..).trans (startsAdmitting_serves ..)) fun _ =>
    enforcePowerUp_serves ..

theorem enforceAdopted_serves (sl : Slot) (w : Option Word) (s : State) : Serves s (s.enforceAdopted sl w) :=
  .ite (fun _ => judgeKept_serves ..) fun _ =>
    Serves.after (setAux_serves rfl rfl) (setEnforcement_serves sl .pending 1 .startup s)

theorem judgeAllKept_serves (s : State) : Serves s s.judgeAllKept := by
  refine .foldl (fun t sl => ?_) _ s
  split
  · have h : Serves t (t.setAux sl { t.auxAt sl with kept := none }) := setAux_serves rfl rfl
    exact .ite (fun _ => h.trans (judgeKept_serves ..)) fun _ => h
  · exact .refl t

end Sys2Proof.Power
end

section
/-! The cooling controller: what a raise, an update and an evaluation do to duties, zones and orders (R56 to
R64). -/

namespace Sys2Proof.Power
open Sys2Proof Sys2Proof.Machine

variable {s t u : State}

/-! ## The law of cooling, read off the view -/

/-- Duties and demands are at most 100. -/
def Bounded (v : View) : Prop := (∀ tr, (v.tray tr).2 ≤ 100) ∧ ∀ z, (v.zone z).2 ≤ 100

/-- Every tray is held at full duty: COOLING_OVERRIDE is in effect, or some tray is not cooling. -/
def Forced (v : View) : Prop :=
  v.latches.toList.any (·.override) = true ∨ ∃ tr, TrayState.notCooling (v.tray tr).1 = true

theorem notCooling_iff (x : TrayState) :
    TrayState.notCooling x = true ↔ x = .absent ∨ x = .rejected ∨ x = .failed := by
  cases x <;> simp [TrayState.notCooling]

/-- The law of cooling in terms of what it reads. -/
theorem coolingLaw_iff (s : State) : s.CoolingLaw ↔ Bounded (view s) ∧
    (∀ tr, s.settings.trayMin ≤ (s.trayAt tr).duty) ∧ (Forced (view s) → ∀ tr, (s.trayAt tr).duty = 100) := by
  have forced : Forced (view s) ↔ s.holdEffective .coolingOverride = true ∨
      (∃ tr, (s.trayAt tr).state = .absent ∨ (s.trayAt tr).state = .rejected ∨
        (s.trayAt tr).state = .failed) :=
    or_congr Iff.rfl (exists_congr fun tr => notCooling_iff _)
  rw [forced]
  exact ⟨fun ⟨hd, hz, hf⟩ => ⟨⟨fun tr => (hd tr).2, hz⟩, fun tr => (hd tr).1, hf⟩,
    fun ⟨⟨hd, hz⟩, hm, hf⟩ => ⟨fun tr => ⟨hm tr, hd tr⟩, hz, hf⟩⟩

/-- A slot that draws power in a zone in SHUTDOWN (R64). -/
def Hot (s : State) (sl : Slot) : Prop :=
  ((s.slotAt sl).state = .powering ∨ (s.slotAt sl).state = .powered) ∧
    (s.zoneAt (zoneOfSlot sl)).temp = .shutdown

/-- A hot slot's thermal-off order waits (R63, R64). -/
def Ordered (s : State) (sl : Slot) : Prop := Hot s sl → .thermalOff sl ∈ s.agenda

theorem shutdownLaw_iff (s : State) : s.ShutdownLaw ↔ ∀ sl, ¬Hot s sl :=
  forall_congr' fun _ => ⟨fun h k => h k.1 k.2, fun h k e => h ⟨k, e⟩⟩

/-! ## Targets -/

theorem anyNotCooling_iff (s : State) :
    s.anyNotCooling = true ↔ ∃ tr, TrayState.notCooling (s.trayAt tr).state = true := by
  rw [State.anyNotCooling, List.any_eq_true]
  exact ⟨fun ⟨e, he, h⟩ => ((mem_toList_iff _ _).1 he).imp fun _ k => by rw [State.trayAt, k]; exact h,
    fun ⟨tr, h⟩ => ⟨_, (mem_toList_iff _ _).2 ⟨tr, rfl⟩, h⟩⟩

theorem floorDuty_le (f : Vector Bool 5) : floorDuty f ≤ 100 := by
  unfold floorDuty
  split
  · exact Nat.le_refl _
  · split <;> omega

theorem floorDuty_of_forced (z : AirZone) (h : Forced (view s)) : floorDuty (s.floors z) = 100 := by
  have hf : look (s.floors z) 3 = true ∨ look (s.floors z) 4 = true :=
    h.imp id (anyNotCooling_iff s).2
  rw [floorDuty, if_pos]
  rcases hf with e | e <;> simp [e]

theorem targetFor_le {z : AirZone} {d : Nat} (hd : d ≤ 100) (hm : s.settings.trayMin ≤ 100) :
    s.targetFor z d ≤ 100 :=
  max_le hd (max_le hm (floorDuty_le _))

theorem trayMin_le_targetFor (z : AirZone) (d : Nat) (s : State) : s.settings.trayMin ≤ s.targetFor z d :=
  (le_max_left _ _).trans (le_max_right _ _)

theorem targetFor_of_forced (z : AirZone) (d : Nat) (h : Forced (view s)) : 100 ≤ s.targetFor z d :=
  floorDuty_of_forced z h ▸ (le_max_right _ _).trans (le_max_right _ _)

/-! ## Duties written tray by tray -/

/-- The duties of the trays of a list changed, each from what it was. -/
def dutied (l : List Tray) (g : Nat → Nat) (v : Vector TrayEntry 4) : Vector TrayEntry 4 :=
  Vector.ofFn fun tr => if tr ∈ l then { look v tr with duty := g (look v tr).duty } else look v tr

def withDuties (l : List Tray) (g : Nat → Nat) (s : State) : State := { s with trays := dutied l g s.trays }

theorem look_dutied (l : List Tray) (g : Nat → Nat) (v : Vector TrayEntry 4) (tr : Tray) :
    look (dutied l g v) tr = if tr ∈ l then { look v tr with duty := g (look v tr).duty } else look v tr :=
  look_ofFn ..

theorem dutied_nil (g : Nat → Nat) (v : Vector TrayEntry 4) : dutied [] g v = v :=
  look_ext fun i => by simp [look_dutied]

/-- Lifting the trays below a duty to it lifts every tray to it at least. -/
theorem dutied_below (l : List Tray) (d : Nat) (v : Vector TrayEntry 4) :
    dutied (l.filter fun tr => (look v tr).duty < d) (fun _ => d) v = dutied l (max d) v := by
  refine look_ext fun tr => ?_
  rw [look_dutied, look_dutied]
  by_cases hm : tr ∈ l
  · by_cases hd : (look v tr).duty < d
    · rw [if_pos hm, if_pos (List.mem_filter.2 ⟨hm, decide_eq_true hd⟩), max_eq_left hd.le]
    · have k : tr ∉ l.filter fun tr => (look v tr).duty < d := by simp [hd]
      rw [if_pos hm, if_neg k, max_eq_right (Nat.not_lt.1 hd)]
  · have k : tr ∉ l.filter fun tr => (look v tr).duty < d := by simp [hm]
    rw [if_neg hm, if_neg k]

theorem dutied_cons {x : Tray} {l : List Tray} (hx : x ∉ l) (g : Nat → Nat) (v : Vector TrayEntry 4) :
    dutied l g (put v x { look v x with duty := g (look v x).duty }) = dutied (x :: l) g v := by
  refine look_ext fun i => ?_
  by_cases hi : i = x
  · subst hi
    simp [look_dutied, hx]
  · simp [look_dutied, look_put, hi]

theorem Reports.withDuties (h : Reports s t) (l : List Tray) (g : Nat → Nat) :
    Reports (withDuties l g s) (withDuties l g t) := by
  obtain ⟨a, q, c, hq, rfl⟩ := h
  exact ⟨a, q, c, hq, rfl⟩

theorem foldl_setDuty_reports (g : Nat → Nat) {l : List Tray} (hl : l.Nodup) (s : State) :
    Reports (withDuties l g s) (l.foldl (fun t tr => t.setDuty tr (g (t.trayAt tr).duty)) s) := by
  induction l generalizing s with
  | nil =>
    have e : withDuties [] g s = s :=
      congrArg (fun v => { s with trays := v }) (dutied_nil ..)
    exact e ▸ .refl s
  | cons x l ih =>
    obtain ⟨hx, hl⟩ := List.nodup_cons.1 hl
    have e : Power.withDuties (x :: l) g s = Power.withDuties l g
        { s with trays := put s.trays x { s.trayAt x with duty := g (s.trayAt x).duty } } :=
      congrArg (fun v => { s with trays := v }) (dutied_cons hx g s.trays).symm
    exact e ▸ ((setTray_reports ..).withDuties l g).trans (ih hl _)

@[simp] theorem trayAt_withDuties (l : List Tray) (g : Nat → Nat) (s : State) (tr : Tray) :
    (withDuties l g s).trayAt tr =
      if tr ∈ l then { s.trayAt tr with duty := g (s.trayAt tr).duty } else s.trayAt tr :=
  look_dutied ..

theorem mem_traysOf {z : AirZone} {tr : Tray} : tr ∈ traysOf z ↔ zoneOfTray tr = z := by
  simp [traysOf, allTrays, allFin]

theorem nodup_traysOf (z : AirZone) : (traysOf z).Nodup :=
  (List.nodup_finRange 4).filter _

/-- What a raise leaves: the trays of the zone at the target at least, and the zone's target (R60). -/
theorem raise_reports (z : AirZone) (s : State) : ∃ target,
    Reports (withDuties (traysOf z) (max (s.targetFor z (s.zoneAt z).demand))
      (s.setZone z { s.zoneAt z with target := target })) (s.raise z) := by
  have lifted := dutied_below (traysOf z) (s.targetFor z (s.zoneAt z).demand) s.trays
  by_cases h : ((traysOf z).filter fun tr => (s.trayAt tr).duty < s.targetFor z (s.zoneAt z).demand).isEmpty
  · have e : s.raise z = s := if_pos h
    have same : dutied (traysOf z) (max (s.targetFor z (s.zoneAt z).demand)) s.trays = s.trays := by
      rw [← lifted]
      exact List.isEmpty_iff.1 h ▸ dutied_nil ..
    have hz : put s.cooling.zones (AirZone.idx z) (s.zoneAt z) = s.cooling.zones := put_look ..
    refine ⟨(s.zoneAt z).target, ?_⟩
    rw [e]
    convert Reports.refl s using 1
    exact congrArg₂ (fun v w => { s with trays := v, cooling := { s.cooling with zones := w } }) same hz
  · have e : s.raise z = _ := if_neg h
    refine ⟨s.targetFor z (s.zoneAt z).demand, ?_⟩
    rw [e, withDuties]
    convert foldl_setDuty_reports (fun _ => s.targetFor z (s.zoneAt z).demand)
      ((nodup_traysOf z).filter _) _ using 1
    exact congrArg (fun v => { s.setZone z _ with trays := v }) lifted.symm

/-! ## Raises and evaluations leave the law of cooling true -/

/-- What a raise or an evaluation of a zone does: duties rise and stay within 100, no demand and no tray state
changes, and a slot that is hot afterwards has its order waiting if it had it before. -/
structure Cools (s t : State) : Prop where
  lasting : t.lasting = s.lasting
  ledger : t.ledger = s.ledger
  tasks : ∀ x ∈ s.agenda, x ∈ t.agenda
  state : ∀ sl, (t.slotAt sl).state = (s.slotAt sl).state
  trayState : ∀ tr, (t.trayAt tr).state = (s.trayAt tr).state
  demand : ∀ z, (t.zoneAt z).demand = (s.zoneAt z).demand
  rises : ∀ tr, (s.trayAt tr).duty ≤ (t.trayAt tr).duty
  bounded : s.settings.trayMin ≤ 100 → Bounded (view s) → Bounded (view t)
  orders : ∀ sl, Ordered s sl → Ordered t sl

/-- The work of one zone: the temperature state of the other is as it was. -/
structure CoolsAt (z : AirZone) (s t : State) : Prop extends Cools s t where
  others : ∀ y, y ≠ z → (t.zoneAt y).temp = (s.zoneAt y).temp

theorem Cools.refl (s : State) : Cools s s :=
  ⟨rfl, rfl, fun _ h => h, fun _ => rfl, fun _ => rfl, fun _ => rfl, fun _ => Nat.le_refl _, fun _ h => h,
    fun _ h => h⟩

theorem Cools.trans (h : Cools s t) (k : Cools t u) : Cools s u where
  lasting := k.lasting.trans h.lasting
  ledger := k.ledger.trans h.ledger
  tasks x hx := k.tasks x (h.tasks x hx)
  state sl := (k.state sl).trans (h.state sl)
  trayState tr := (k.trayState tr).trans (h.trayState tr)
  demand z := (k.demand z).trans (h.demand z)
  rises tr := (h.rises tr).trans (k.rises tr)
  bounded hm hb :=
    k.bounded (by rwa [read_lasting (·.settings) h.lasting]) (h.bounded hm hb)
  orders sl ho := k.orders sl (h.orders sl ho)

theorem CoolsAt.refl (z : AirZone) (s : State) : CoolsAt z s s := ⟨.refl s, fun _ _ => rfl⟩

theorem CoolsAt.trans {z : AirZone} (h : CoolsAt z s t) (k : CoolsAt z t u) : CoolsAt z s u :=
  ⟨h.toCools.trans k.toCools, fun y hy => (k.others y hy).trans (h.others y hy)⟩

theorem CoolsAt.after {z : AirZone} (k : CoolsAt z t u) (h : CoolsAt z s t) : CoolsAt z s u := h.trans k

theorem Cools.ite {c : Prop} [Decidable c] (ht : c → Cools s t) (hu : ¬c → Cools s u) :
    Cools s (if c then t else u) := by
  split
  · exact ht ‹_›
  · exact hu ‹_›

theorem CoolsAt.ite {z : AirZone} {c : Prop} [Decidable c] (ht : c → CoolsAt z s t) (hu : ¬c → CoolsAt z s u) :
    CoolsAt z s (if c then t else u) := by
  split
  · exact ht ‹_›
  · exact hu ‹_›

theorem Reports.coolsAt (h : Reports s t) (z : AirZone) : CoolsAt z s t := by
  obtain ⟨a, q, c, hq, rfl⟩ := h
  exact ⟨⟨lasting_queues hq, rfl, fun _ h => h, fun _ => rfl, fun _ => rfl, fun _ => rfl,
    fun _ => Nat.le_refl _, fun _ h => h, fun _ h => h⟩, fun _ _ => rfl⟩

theorem zoneAt_setZone (z y : AirZone) (c : ZoneCtl) (s : State) :
    (s.setZone z c).zoneAt y = if y = z then c else s.zoneAt y := by
  have h : (s.setZone z c).zoneAt y = if AirZone.idx y = AirZone.idx z then c else s.zoneAt y := look_put ..
  rw [h]
  exact if_congr airZone_idx_inj rfl rfl

/-- A change of a zone's registers other than demand, into a temperature state whose orders wait. -/
theorem setZone_coolsAt {z : AirZone} {c : ZoneCtl} (hd : c.demand = (s.zoneAt z).demand)
    (ht : c.temp = (s.zoneAt z).temp ∨ c.temp ≠ .shutdown) : CoolsAt z s (s.setZone z c) := by
  have demand : ∀ y, ((s.setZone z c).zoneAt y).demand = (s.zoneAt y).demand := fun y => by
    rw [zoneAt_setZone]
    split
    · next e => rw [hd, e]
    · rfl
  refine ⟨⟨rfl, rfl, fun _ h => h, fun _ => rfl, fun _ => rfl, demand, fun _ => Nat.le_refl _,
    fun _ hb => ⟨hb.1, fun y => (demand y).trans_le (hb.2 y)⟩, fun sl ho hh => ho ⟨hh.1, ?_⟩⟩, fun y hy => ?_⟩
  · have k : ((s.setZone z c).zoneAt (zoneOfSlot sl)).temp = .shutdown := hh.2
    rw [zoneAt_setZone] at k
    split at k
    · next e => exact ht.elim (fun h => e ▸ h.symm.trans k) fun h => absurd k h
    · exact k
  · rw [zoneAt_setZone, if_neg hy]

theorem lasting_withDuties (l : List Tray) (g : Nat → Nat) (s : State) : (withDuties l g s).lasting = s.lasting := by
  refine congrArg (fun v => { s.lasting with trays := v }) ((map_eq_iff ..).2 fun tr => ?_)
  show (State.trayAt (withDuties l g s) tr).lasting = (s.trayAt tr).lasting
  rw [trayAt_withDuties]
  split <;> rfl

theorem withDuties_max_cools {z : AirZone} {d : Nat}
    (hd : s.settings.trayMin ≤ 100 → Bounded (view s) → d ≤ 100) :
    CoolsAt z s (withDuties (traysOf z) (max d) s) := by
  refine ⟨⟨lasting_withDuties .., rfl, fun _ h => h, fun _ => rfl, fun tr => ?_, fun _ => rfl, fun tr => ?_,
    fun hm hb => ⟨fun tr => ?_, hb.2⟩, fun _ h => h⟩, fun _ _ => rfl⟩
  · rw [trayAt_withDuties]
    split <;> rfl
  · rw [trayAt_withDuties]
    split
    · exact Nat.le_max_right ..
    · exact Nat.le_refl _
  · show ((withDuties (traysOf z) (max d) s).trayAt tr).duty ≤ 100
    rw [trayAt_withDuties]
    split
    · exact Nat.max_le.2 ⟨hd hm hb, hb.1 tr⟩
    · exact hb.1 tr

theorem raise_coolsAt (z : AirZone) (s : State) : CoolsAt z s (s.raise z) := by
  obtain ⟨target, h⟩ := raise_reports z s
  have zone : CoolsAt z s (s.setZone z { s.zoneAt z with target := target }) :=
    setZone_coolsAt rfl (.inl rfl)
  refine (zone.trans (withDuties_max_cools fun hm hb => ?_)).trans (h.coolsAt z)
  exact targetFor_le ((zone.demand z).symm.trans_le (hb.2 z)) hm

/-- After a raise no tray of the zone is below the target of the zone's demand (R60). -/
theorem targetFor_le_raise {z : AirZone} {tr : Tray} (h : zoneOfTray tr = z) (s : State) :
    s.targetFor z (s.zoneAt z).demand ≤ ((s.raise z).trayAt tr).duty := by
  obtain ⟨target, k⟩ := raise_reports z s
  have e := k.read (fun t => t.trayAt tr)
  rw [e, trayAt_withDuties, if_pos (mem_traysOf.2 h)]
  exact Nat.le_max_left ..

theorem Cools.targetFor (h : Cools s t) (z : AirZone) (d : Nat) (hf : t.floors z = s.floors z) :
    t.targetFor z d = s.targetFor z d := by
  rw [State.targetFor, State.targetFor, hf, read_lasting (·.settings) h.lasting]

theorem Cools.forced (h : Cools s t) : Forced (view t) ↔ Forced (view s) := by
  have hl : (view t).latches = (view s).latches := read_lasting (·.arbiter.latches) h.lasting
  exact or_congr (by rw [hl]) (exists_congr fun tr => iff_of_eq (congrArg (TrayState.notCooling · = true) (h.trayState tr)))

/-- Such work keeps the law of cooling. -/
theorem Cools.coolingLaw (h : Cools s t) (hm : s.settings.trayMin ≤ 100) (hc : s.CoolingLaw) : t.CoolingLaw := by
  rw [coolingLaw_iff] at hc ⊢
  obtain ⟨bounded, least, full⟩ := hc
  have hb := h.bounded hm bounded
  refine ⟨hb, fun tr => ?_, fun hf tr => Nat.le_antisymm (hb.1 tr) ?_⟩
  · rw [read_lasting (·.settings) h.lasting]
    exact (least tr).trans (h.rises tr)
  · exact (full (h.forced.1 hf) tr).symm.trans_le (h.rises tr)

theorem raiseBoth_cools (s : State) : Cools s s.raiseBoth :=
  (raise_coolsAt .zoneL s).toCools.trans (raise_coolsAt .zoneR _).toCools

/-- The raise in both zones makes the law of cooling true of every state whose duties and demands are within 100
(R60). -/
theorem raiseBoth_coolingLaw (hm : s.settings.trayMin ≤ 100) (hb : Bounded (view s)) : s.raiseBoth.CoolingLaw := by
  have hL := (raise_coolsAt .zoneL s).toCools
  have hR := (raise_coolsAt .zoneR (s.raise .zoneL)).toCools
  have hs : (s.raise .zoneL).settings = s.settings := read_lasting (·.settings) hL.lasting
  have bounded := (raiseBoth_cools s).bounded hm hb
  -- a tray reaches the target of some state in which the settings and what forces full duty are those of `s`
  have reached : ∀ tr, ∃ d, d ≤ (s.raiseBoth.trayAt tr).duty ∧ s.settings.trayMin ≤ d ∧
      (Forced (view s) → 100 ≤ d) := by
    intro tr
    cases h : zoneOfTray tr with
    | zoneL =>
      exact ⟨_, (targetFor_le_raise h s).trans (hR.rises tr), trayMin_le_targetFor .., targetFor_of_forced _ _⟩
    | zoneR =>
      exact ⟨_, targetFor_le_raise h (s.raise .zoneL), hs ▸ trayMin_le_targetFor ..,
        fun hf => targetFor_of_forced _ _ (hL.forced.2 hf)⟩
  refine (coolingLaw_iff _).2 ⟨bounded, fun tr => ?_, fun hf tr => ?_⟩
  · obtain ⟨d, hd, least, -⟩ := reached tr
    rw [read_lasting (·.settings) (raiseBoth_cools s).lasting]
    exact least.trans hd
  · obtain ⟨d, hd, -, full⟩ := reached tr
    exact Nat.le_antisymm (bounded.1 tr) ((full ((raiseBoth_cools s).forced.1 hf)).trans hd)

/-! ## Temperature states and thermal-off orders (R61 to R64) -/

theorem mem_slotsOf {z : AirZone} {sl : Slot} : sl ∈ slotsOf z ↔ zoneOfSlot sl = z := by
  simp [slotsOf, allSlots, allFin]

/-- The slots of a list that draw power are ordered off, and nothing else changes. -/
theorem foldl_order_frame (l : List Slot) (s : State) : ∃ g,
    l.foldl (fun t sl => if (t.slotAt sl).state = .powering ∨ (t.slotAt sl).state = .powered then
      t.hand (.thermalOff sl) else t) s = { s with agenda := g } ∧ (∀ x ∈ s.agenda, x ∈ g) ∧
    ∀ sl ∈ l, (s.slotAt sl).state = .powering ∨ (s.slotAt sl).state = .powered → .thermalOff sl ∈ g := by
  induction l generalizing s with
  | nil => exact ⟨_, rfl, fun _ h => h, nofun⟩
  | cons i l ih =>
    rw [List.foldl_cons]
    split
    · have tasks := fun x => (mem_hand (s := s) (x := x) (y := .thermalOff i)).2
      obtain ⟨g, e⟩ := hand_frame (.thermalOff i) s
      rw [e] at tasks ⊢
      obtain ⟨g', e', keeps, orders⟩ := ih { s with agenda := g }
      refine ⟨g', e', fun x hx => keeps x (tasks x (.inl hx)), fun sl hsl hp => ?_⟩
      rcases List.mem_cons.1 hsl with rfl | hsl
      · exact keeps _ (tasks _ (.inr rfl))
      · exact orders sl hsl hp
    · next hi =>
      obtain ⟨g', e', keeps, orders⟩ := ih s
      refine ⟨g', e', keeps, fun sl hsl hp => ?_⟩
      rcases List.mem_cons.1 hsl with rfl | hsl
      · exact absurd hp hi
      · exact orders sl hsl hp

theorem orderThermalOff_frame (z : AirZone) (s : State) : ∃ g, s.orderThermalOff z = { s with agenda := g } ∧
    (∀ x ∈ s.agenda, x ∈ g) ∧ ∀ sl, zoneOfSlot sl = z →
      (s.slotAt sl).state = .powering ∨ (s.slotAt sl).state = .powered → .thermalOff sl ∈ g := by
  obtain ⟨g, e, keeps, orders⟩ := foldl_order_frame (slotsOf z) s
  exact ⟨g, e, keeps, fun sl h => orders sl (mem_slotsOf.2 h)⟩

/-- A zone's registers changed, some work of the zone, and the orders of its slots: these make up for any new
temperature state. -/
theorem CoolsAt.ordered {z : AirZone} {c : ZoneCtl} (h : CoolsAt z (s.setZone z c) t)
    (hd : c.demand = (s.zoneAt z).demand) : CoolsAt z s (t.orderThermalOff z) := by
  have zone : CoolsAt z s (s.setZone z { c with temp := (s.zoneAt z).temp }) := setZone_coolsAt hd (.inl rfl)
  have demand : ∀ y, ((s.setZone z c).zoneAt y).demand = (s.zoneAt y).demand := fun y => by
    rw [← zone.demand y, zoneAt_setZone, zoneAt_setZone]
    split <;> rfl
  obtain ⟨g, e, keeps, orders⟩ := orderThermalOff_frame z t
  rw [e]
  refine ⟨⟨h.lasting, h.ledger, fun x hx => keeps x (h.tasks x hx), h.state, h.trayState,
    fun y => (h.demand y).trans (demand y), h.rises,
    fun hm hb => h.bounded hm ⟨hb.1, fun y => (demand y).trans_le (hb.2 y)⟩, fun sl ho hh => ?_⟩, fun y hy => ?_⟩
  · by_cases hz : zoneOfSlot sl = z
    · exact orders sl hz hh.1
    · refine keeps _ (h.orders sl (fun k => ho ⟨k.1, ?_⟩) hh)
      rw [← k.2, zoneAt_setZone, if_neg hz]
  · exact (h.others y hy).trans (by rw [zoneAt_setZone, if_neg hy])

theorem evaluateTemp_coolsAt (z : AirZone) (s : State) : CoolsAt z s (s.evaluateTemp z) := by
  unfold State.evaluateTemp
  dsimp only
  generalize nextTempState s.settings (s.zoneAt z).tz (s.zoneAt z).temp = st
  refine .ite (fun _ => .refl z s) fun _ => ?_
  have told := ((handTempConditions_reports z st (s.setZone z { s.zoneAt z with temp := st })).trans
    (report_reports .zoneTempState (AirZone.code z) (u16 (TempState.rank st)) (s16 (s.zoneAt z).tz) _)).coolsAt z
  have raised := told.trans (CoolsAt.ite (c := st = .crit ∨ st = .shutdown) (fun _ => raise_coolsAt z _)
    fun _ => .refl z _)
  exact .ite (fun _ => raised.ordered rfl) fun h => raised.after (setZone_coolsAt rfl (.inr h))

theorem deriveZone_coolsAt (z : AirZone) (s : State) : CoolsAt z s (s.deriveZone z) := by
  have zone : CoolsAt z s (s.setZone z { s.zoneAt z with tz := s.zoneTemp z, unknown := s.zoneUnknown z }) :=
    setZone_coolsAt rfl (.inl rfl)
  exact (evaluateTemp_coolsAt z _).after (CoolsAt.after (.ite (fun _ => raise_coolsAt ..) fun _ => .refl ..)
    (CoolsAt.after (.ite (fun _ => .refl ..) fun _ => (condition_reports ..).coolsAt z) zone))

theorem deriveSensorless_cools (s : State) : Cools s s.deriveSensorless := by
  have one : ∀ (z : AirZone) (t : State), Cools t (if (t.zoneSensors z).isEmpty then t.deriveZone z else t) :=
    fun z t => .ite (fun _ => (deriveZone_coolsAt z t).toCools) fun _ => .refl t
  exact (one .zoneL s).trans (one .zoneR _)

theorem setContributing_coolsAt (sl : Slot) (v : Bool) (z : AirZone) (s : State) :
    CoolsAt z s (s.setContributing sl v) :=
  ⟨⟨rfl, rfl, fun _ h => h, fun _ => rfl, fun _ => rfl, fun _ => rfl, fun _ => Nat.le_refl _, fun _ h => h,
    fun _ h => h⟩, fun _ _ => rfl⟩

theorem setCpContributing_cools (c : Cp) (v : Bool) (s : State) : Cools s (s.setCpContributing c v) :=
  ⟨rfl, rfl, fun _ h => h, fun _ => rfl, fun _ => rfl, fun _ => rfl, fun _ => Nat.le_refl _, fun _ h => h,
    fun _ h => h⟩

theorem coolingJoin_coolsAt (sl : Slot) (s : State) : CoolsAt (zoneOfSlot sl) s (s.coolingJoin sl) :=
  (setContributing_coolsAt ..).trans (deriveZone_coolsAt ..)

theorem coolingLeave_coolsAt (sl : Slot) (s : State) : CoolsAt (zoneOfSlot sl) s (s.coolingLeave sl) :=
  .ite (fun _ => (setContributing_coolsAt ..).trans (deriveZone_coolsAt ..)) fun _ => .refl ..

theorem coolingUpdate_cools (sl : Slot) (s : State) : Cools s (s.coolingUpdate sl) :=
  .ite (fun _ => (deriveZone_coolsAt ..).toCools) fun _ => .refl s

theorem coolingJoinCp_cools (c : Cp) (s : State) : Cools s (s.coolingJoinCp c) :=
  (setCpContributing_cools ..).trans (deriveZone_coolsAt ..).toCools

theorem coolingLeaveCp_cools (c : Cp) (s : State) : Cools s (s.coolingLeaveCp c) :=
  .ite (fun _ => (setCpContributing_cools ..).trans (deriveZone_coolsAt ..).toCools) fun _ => .refl s

theorem coolingUpdateCp_cools (c : Cp) (s : State) : Cools s (s.coolingUpdateCp c) :=
  .ite (fun _ => (deriveZone_coolsAt ..).toCools) fun _ => .refl s

/-! ## The update of a zone (R56 to R59) -/

theorem ceilDiv_mul_le (a : Nat) {b c : Nat} (h : b ≤ c) : ceilDiv (a * b) c ≤ a := by
  unfold ceilDiv
  rcases Nat.eq_zero_or_pos c with rfl | hc
  · simp
  · have hm : a * b ≤ a * c := Nat.mul_le_mul_left a h
    refine Nat.lt_succ_iff.1 ((Nat.div_lt_iff_lt_mul hc).2 ?_)
    rw [Nat.succ_mul]
    omega

theorem curveSegment_le {n : Nat} (l : List (Int × Nat)) (h : ∀ p ∈ l, p.2 ≤ n) (x : Int) :
    curveSegment l x ≤ n := by
  induction l, x using curveSegment.induct with
  | case1 t0 d0 t1 d1 rest x hx =>
    have h0 : d0 ≤ n := h (t0, d0) (by simp)
    have h1 : d1 ≤ n := h (t1, d1) (by simp)
    have hc : ceilDiv ((d1 - d0) * (x - t0).toNat) (t1 - t0).toNat ≤ d1 - d0 := ceilDiv_mul_le _ (by omega)
    rw [curveSegment, if_pos hx]
    omega
  | case2 t0 d0 t1 d1 rest x hx ih =>
    rw [curveSegment, if_neg hx]
    exact ih fun p hp => h p (by simp [hp])
  | case3 t d x => simpa [curveSegment] using h (t, d) (by simp)
  | case4 x => exact Nat.zero_le _

/-- No demand of a curve exceeds its duties. -/
theorem curveValue_le {n : Nat} (ts : Vector Int 6) {ds : Vector Nat 6} (h : ∀ i, look ds i ≤ n) (x : Int) :
    curveValue ts ds x ≤ n := by
  unfold curveValue
  split
  · exact h 0
  · split
    · exact h 5
    · refine curveSegment_le _ (fun p hp => ?_) x
      obtain ⟨i, e⟩ := (mem_toList_iff ds p.2).1 (List.of_mem_zip hp).2
      exact e ▸ h i

theorem nextDemand_le {n up down prev : Nat} (hu : up ≤ n) (hd : down ≤ n) (hp : prev ≤ n) :
    nextDemand up down prev ≤ n := by
  unfold nextDemand
  split
  · exact hu
  · split
    · exact hd
    · exact hp

theorem nextDuty_bounds {target prev n : Nat} (ht : target ≤ n) (hp : prev ≤ n) :
    target ≤ nextDuty target prev ∧ nextDuty target prev ≤ n := by
  unfold nextDuty
  split
  · exact ⟨Nat.le_refl _, ht⟩
  · omega

/-- The demand an update gives a zone (R57). -/
def nextDemandOf (z : AirZone) (s : State) : Nat :=
  nextDemand (s.curve (s.zoneAt z).tz) (s.curve (min ((s.zoneAt z).tz + s.settings.hysteresis) 250))
    (s.zoneAt z).demand

/-- What an update leaves: the zone's demand and target, and its trays moved toward the target (R57 to R59). -/
theorem updateZone_reports (z : AirZone) (s : State) :
    Reports (withDuties (traysOf z) (nextDuty (s.targetFor z (nextDemandOf z s)))
      (s.setZone z { s.zoneAt z with
        demand := nextDemandOf z s
        target := s.targetFor z (nextDemandOf z s)
        updateTimer := some Config.updateMs })) (s.updateZone z) :=
  foldl_setDuty_reports (nextDuty (s.targetFor z (nextDemandOf z s))) (nodup_traysOf z) _

theorem updateZone_view (z : AirZone) (s : State) : view (s.updateZone z) = { view s with
    tray := fun tr => ((s.trayAt tr).state, if tr ∈ traysOf z then
      nextDuty (s.targetFor z (nextDemandOf z s)) (s.trayAt tr).duty else (s.trayAt tr).duty)
    zone := fun y => ((s.zoneAt y).temp, if y = z then nextDemandOf z s else (s.zoneAt y).demand) } := by
  rw [(updateZone_reports z s).read view]
  refine congrArg₂ (fun f g => { view s with tray := f, zone := g }) (funext fun tr => ?_) (funext fun y => ?_)
  · show ((State.trayAt (withDuties ..) tr).state, (State.trayAt (withDuties ..) tr).duty) = _
    rw [trayAt_withDuties]
    split <;> rfl
  · show ((State.zoneAt (s.setZone ..) y).temp, (State.zoneAt (s.setZone ..) y).demand) = _
    rw [zoneAt_setZone]
    split
    · next e => rw [e]
    · rfl

/-- An update keeps the law of cooling (R60). -/
theorem updateZone_coolingLaw (z : AirZone) (hs : s.settings.Law) (h : s.CoolingLaw) :
    (s.updateZone z).CoolingLaw := by
  obtain ⟨-, -, -, -, -, ⟨-, hm⟩, -, -, -, -, -, hcurve⟩ := hs
  obtain ⟨⟨hduty, hdemand⟩, least, full⟩ := (coolingLaw_iff s).1 h
  have curve : ∀ x, s.curve x ≤ 100 := curveValue_le _ hcurve
  have demand : nextDemandOf z s ≤ 100 := nextDemand_le (curve _) (curve _) (hdemand z)
  have target : s.targetFor z (nextDemandOf z s) ≤ 100 := targetFor_le demand hm
  have step := fun tr => nextDuty_bounds target (hduty tr)
  have hv := updateZone_view z s
  have duty : ∀ tr, ((s.updateZone z).trayAt tr).duty = if tr ∈ traysOf z then
      nextDuty (s.targetFor z (nextDemandOf z s)) (s.trayAt tr).duty else (s.trayAt tr).duty := fun tr =>
    congrArg (fun v => (v.tray tr).2) hv
  have forced : Forced (view (s.updateZone z)) ↔ Forced (view s) := by rw [hv]; exact Iff.rfl
  have settings : (s.updateZone z).settings = s.settings := congrArg View.settings hv
  refine (coolingLaw_iff _).2 ⟨⟨fun tr => ?_, fun y => ?_⟩, fun tr => ?_, fun hf tr => ?_⟩
  · show ((s.updateZone z).trayAt tr).duty ≤ 100
    rw [duty]
    split
    · exact (step tr).2
    · exact hduty tr
  · rw [hv]
    show (if y = z then _ else _) ≤ 100
    split
    · exact demand
    · exact hdemand y
  · rw [duty, settings]
    split
    · exact (trayMin_le_targetFor ..).trans (step tr).1
    · exact least tr
  · rw [duty]
    split
    · exact Nat.le_antisymm (step tr).2 ((targetFor_of_forced _ _ (forced.1 hf)).trans (step tr).1)
    · exact full (forced.1 hf) tr

end Sys2Proof.Power
end

section
/-! Blades entering and leaving power, and the notices and orders carried out at the end of a command: what they
keep of the laws of settings, cooling, power and shutdown (R14, R16, R43 to R48, R64). -/

namespace Sys2Proof.Power
open Sys2Proof Sys2Proof.Machine

variable {s t u : State}

/-! ## The law of the ledger, read off the view -/

/-- A slot state in which the blade draws power. -/
def Drawing (x : SlotState) : Prop := x = .powering ∨ x = .powered

/-- Charged slots, shed set and held records stand as the slot states have them (section 2.1, R47, R23). -/
structure Matched (v : View) : Prop where
  charged : ∀ sl, look v.charged sl = true ↔ Drawing (v.state sl)
  shedSet : ∀ sl, look v.shedSet sl = true ↔ v.state sl = .shed
  held : ∀ sl, v.held sl ≠ none → v.phase = .starting ∧ (v.state sl = .empty ∨ v.state sl = .qualifying)

theorem ledgerLaw_iff (s : State) : s.LedgerLaw ↔ Matched (view s) ∧ Timers s.ledger ∧ Covered s := by
  have covered : (∀ sl, look s.ledger.charged sl = true ↔ Drawing (s.slotAt sl).state) →
      (Covered s ↔ (s.dev.phase = .running → s.ledger.overcommit = .closed → 0 ≤ s.ledger.headroom ∨
        ∀ sl, (s.slotAt sl).state ≠ .powering ∧ (s.slotAt sl).state ≠ .powered)) := by
    intro h
    have none : anySet s.ledger.charged = false ↔
        ∀ sl, (s.slotAt sl).state ≠ .powering ∧ (s.slotAt sl).state ≠ .powered := by
      rw [anySet_eq_false_iff]
      exact forall_congr' fun sl => by rw [← not_or, ← Bool.not_eq_true, h sl, Drawing]
    rw [Covered, none]
  exact ⟨fun ⟨hc, hq, hs, hh, hg, hr⟩ => ⟨⟨hq, hs, hh⟩, ⟨hg, hr⟩, (covered hq).2 hc⟩,
    fun ⟨⟨hq, hs, hh⟩, ⟨hg, hr⟩, hc⟩ => ⟨(covered hq).1 hc, hq, hs, hh, hg, hr⟩⟩

/-- A slot's state replaced, a slot that leaves SHED leaving the shed set with it (R47). -/
def View.enter (sl : Slot) (st : SlotState) (v : View) : View :=
  { v with
    state := fun k => if k = sl then st else v.state k
    shedSet := if v.state sl = .shed ∧ st ≠ .shed then put v.shedSet sl false else v.shedSet }

theorem View.enter_of_leaving {v : View} {sl : Slot} {st : SlotState} (h : v.state sl = .shed ∧ st ≠ .shed) :
    v.enter sl st =
      { v with state := fun k => if k = sl then st else v.state k, shedSet := put v.shedSet sl false } := by
  rw [View.enter, if_pos h]

theorem View.enter_of_not_leaving {v : View} {sl : Slot} {st : SlotState}
    (h : ¬(v.state sl = .shed ∧ st ≠ .shed)) :
    v.enter sl st = { v with state := fun k => if k = sl then st else v.state k } := by
  rw [View.enter, if_neg h]

theorem Matched.held_eq_none {v : View} (h : Matched v) {sl : Slot} (he : v.state sl ≠ .empty)
    (hq : v.state sl ≠ .qualifying) : v.held sl = none :=
  Classical.not_not.1 fun k => (h.held sl k).2.elim he hq

theorem Matched.shedSet_enter {v : View} (h : Matched v) {sl : Slot} {st : SlotState} (hs : st ≠ .shed)
    (k : Slot) : look (v.enter sl st).shedSet k = true ↔ (v.enter sl st).state k = .shed := by
  have hk := h.shedSet k
  by_cases e : k = sl
  · subst e
    simp only [View.enter, ite_true, hs, ne_eq, not_false_eq_true, and_true, iff_false]
    split
    · simp
    · rwa [hk]
  · simp only [View.enter, if_neg e]
    split
    · rwa [look_put_ne _ _ e]
    · exact hk

/-- A slot that draws no power takes another such state than SHED. -/
theorem Matched.enter {v : View} (h : Matched v) {sl : Slot} {st : SlotState} (ho : ¬Drawing (v.state sl))
    (hn : ¬Drawing st) (hs : st ≠ .shed) (hh : v.held sl = none ∨ st = .empty ∨ st = .qualifying) :
    Matched (v.enter sl st) where
  charged k := by
    by_cases e : k = sl
    · subst e
      simpa [View.enter, hn] using (h.charged k).not.2 ho
    · simpa [View.enter, look_put, e] using h.charged k
  shedSet := h.shedSet_enter hs
  held k hk := by
    have hv := h.held k hk
    by_cases e : k = sl
    · subst e
      exact ⟨hv.1, by simpa [View.enter] using hh.resolve_left hk⟩
    · exact ⟨hv.1, by simpa [View.enter, e] using hv.2⟩

/-- A slot that draws power keeps doing so. -/
theorem Matched.enter_drawing {v : View} (h : Matched v) {sl : Slot} {st : SlotState}
    (ho : Drawing (v.state sl)) (hn : Drawing st) : Matched (v.enter sl st) where
  charged k := by
    by_cases e : k = sl
    · subst e
      simpa [View.enter, hn] using (h.charged k).2 ho
    · simpa [View.enter, look_put, e] using h.charged k
  shedSet := h.shedSet_enter (by rcases hn with rfl | rfl <;> decide)
  held k hk := by
    have hv := h.held k hk
    by_cases e : k = sl
    · subst e
      rcases ho with e | e <;> rw [e] at hv <;> simp at hv
    · exact ⟨hv.1, by simpa [View.enter, e] using hv.2⟩

/-- A slot joins the charged slots as it begins to draw power (R14, R40). -/
theorem Matched.charge {v : View} (h : Matched v) {sl : Slot} {st : SlotState} (hn : Drawing st)
    (hh : v.held sl = none) : Matched ({ v with charged := put v.charged sl true }.enter sl st) where
  charged k := by
    by_cases e : k = sl
    · subst e
      simpa [View.enter] using hn
    · simpa [View.enter, look_put, e] using h.charged k
  shedSet := h.shedSet_enter (by rcases hn with rfl | rfl <;> decide)
  held k hk := by
    have hv := h.held k hk
    by_cases e : k = sl
    · exact absurd (e ▸ hh) hk
    · exact ⟨hv.1, by simpa [View.enter, e] using hv.2⟩

/-- A slot leaves the charged slots with its power, and joins the shed set when it was shed (R16, R47). -/
theorem Matched.uncharge {v : View} (h : Matched v) {sl : Slot} {st : SlotState} (ho : Drawing (v.state sl))
    (hn : ¬Drawing st) : Matched { v.enter sl st with
      charged := put v.charged sl false
      shedSet := if st = .shed then put v.shedSet sl true else v.shedSet } where
  charged k := by
    by_cases e : k = sl
    · subst e
      simpa [View.enter] using hn
    · simpa [View.enter, look_put, e] using h.charged k
  shedSet k := by
    have hk := h.shedSet k
    by_cases e : k = sl
    · subst e
      have hv : v.state k ≠ .shed := fun a => by rw [a] at ho; simp [Drawing] at ho
      by_cases hs : st = .shed
      · simp [View.enter, hs]
      · simp [View.enter, hs, hk, hv]
    · by_cases hs : st = .shed
      · simpa [View.enter, look_put, hs, e] using hk
      · simpa [View.enter, look_put, hs, e] using hk
  held k hk := by
    have hv := h.held k hk
    by_cases e : k = sl
    · subst e
      rcases ho with e | e <;> rw [e] at hv <;> simp at hv
    · exact ⟨hv.1, by simpa [View.enter, e] using hv.2⟩

/-! ## What keeps the laws -/

/-- The laws of settings, cooling, power and shutdown pass from `s` to `t`, the last in the form it has while
orders wait. -/
structure Keeps (s t : State) : Prop where
  settings : s.SettingsLaw → t.SettingsLaw
  cooling : s.SettingsLaw → s.CoolingLaw → t.CoolingLaw
  ledger : s.LedgerLaw → t.LedgerLaw
  orders : ∀ sl, Ordered s sl → Ordered t sl

theorem Keeps.refl (s : State) : Keeps s s := ⟨id, fun _ h => h, id, fun _ h => h⟩

theorem Keeps.trans (h : Keeps s t) (k : Keeps t u) : Keeps s u where
  settings hs := k.settings (h.settings hs)
  cooling hs hc := k.cooling (h.settings hs) (h.cooling hs hc)
  ledger hl := k.ledger (h.ledger hl)
  orders sl ho := k.orders sl (h.orders sl ho)

theorem Keeps.after (k : Keeps t u) (h : Keeps s t) : Keeps s u := h.trans k

theorem Keeps.ite {c : Prop} [Decidable c] (ht : c → Keeps s t) (hu : ¬c → Keeps s u) :
    Keeps s (if c then t else u) := by
  split
  · exact ht ‹_›
  · exact hu ‹_›

theorem Keeps.foldl {ι : Type} {f : State → ι → State} (hf : ∀ t i, Keeps t (f t i)) (l : List ι)
    (s : State) : Keeps s (l.foldl f s) := by
  induction l generalizing s with
  | nil => exact .refl s
  | cons i l ih => exact (hf s i).trans (ih _)

/-- The law of the settings reads settings, the stored section and the running write alone. -/
theorem settingsLaw_congr (hf : t.settings = s.settings) (hc : t.store.config = s.store.config)
    (hw : t.store.write = s.store.write) (hs : s.SettingsLaw) : t.SettingsLaw := by
  simpa only [State.SettingsLaw, hf, hc, hw] using hs

theorem settingsLaw_of_view (h : view t = view s) : s.SettingsLaw → t.SettingsLaw :=
  settingsLaw_congr (congrArg View.settings h) (congrArg View.config h) (congrArg View.write h)

/-- The law of cooling reads trays, zones, latches and settings alone. -/
theorem coolingLaw_congr (ht : (view t).tray = (view s).tray) (hz : (view t).zone = (view s).zone)
    (hl : (view t).latches = (view s).latches) (hs : t.settings = s.settings) (hc : s.CoolingLaw) :
    t.CoolingLaw := by
  have duty : ∀ tr, (t.trayAt tr).duty = (s.trayAt tr).duty := fun tr => congrArg (fun f => (f tr).2) ht
  rw [coolingLaw_iff] at hc ⊢
  simpa only [Bounded, Forced, ht, hz, hl, duty, hs] using hc

theorem coolingLaw_of_view (h : view t = view s) (hc : s.CoolingLaw) : t.CoolingLaw :=
  coolingLaw_congr (congrArg View.tray h) (congrArg View.zone h) (congrArg View.latches h)
    (congrArg View.settings h) hc

theorem hot_of_view (h : view t = view s) (sl : Slot) : Hot t sl ↔ Hot s sl := by
  have e₁ : (t.slotAt sl).state = (s.slotAt sl).state := congrArg (fun v => v.state sl) h
  have e₂ : (t.zoneAt (zoneOfSlot sl)).temp = (s.zoneAt (zoneOfSlot sl)).temp :=
    congrArg (fun v => (v.zone (zoneOfSlot sl)).1) h
  rw [Hot, Hot, e₁, e₂]

theorem Works.ordered (h : Works s t) (sl : Slot) (ho : Ordered s sl) : Ordered t sl :=
  fun k => h.orders _ (ho ((hot_of_view h.view sl).1 k)) (by simp)

theorem Works.keeps (h : Works s t) : Keeps s t where
  settings := settingsLaw_of_view h.view
  cooling _ := coolingLaw_of_view h.view
  ledger hl := by
    rw [ledgerLaw_iff] at hl ⊢
    exact ⟨h.view ▸ hl.1, h.timers hl.2.1, h.covered hl.2.2⟩
  orders := h.ordered

theorem Serves.keeps (h : Serves s t) : Keeps s t := h.toWorks.keeps

theorem settingsLaw_trayMin (h : s.SettingsLaw) : s.settings.trayMin ≤ 100 := h.1.2.2.2.2.2.1.2

/-- What stays when `State.lasting` does: settings and stored sections. -/
theorem settingsLaw_of_lasting (h : t.lasting = s.lasting) (hs : s.SettingsLaw) : t.SettingsLaw := by
  simpa only [State.SettingsLaw, read_lasting (·.settings) h, read_lasting (·.store) h] using hs

theorem held_of_lasting (h : t.lasting = s.lasting) (sl : Slot) : (t.auxAt sl).held = (s.auxAt sl).held := by
  show (t.auxAt sl).lasting.held = (s.auxAt sl).lasting.held
  exact congrArg SlotAux.held ((map_eq_iff ..).1 (congrArg State.aux h) sl)

/-! ## Work for a notice that may also reach the fans -/

/-- What the work of other blocks leaves as it stands when a blade leaves or takes up power: everything but
duties and the temperature state of one zone, and of these what the laws say. -/
structure Tends (z : AirZone) (s t : State) : Prop where
  lasting : t.lasting = s.lasting
  supply : SupplyKnown s → SupplyKnown t
  state : ∀ sl, (t.slotAt sl).state = (s.slotAt sl).state
  charged : t.ledger.charged = s.ledger.charged
  shedSet : t.ledger.shedSet = s.ledger.shedSet
  timers : Timers s.ledger → Timers t.ledger
  covered : Covered s → Covered t
  cooling : s.SettingsLaw → s.CoolingLaw → t.CoolingLaw
  orders : ∀ sl, Ordered s sl → Ordered t sl
  others : ∀ y, y ≠ z → (t.zoneAt y).temp = (s.zoneAt y).temp

theorem Tends.trans {z : AirZone} (h : Tends z s t) (k : Tends z t u) : Tends z s u where
  lasting := k.lasting.trans h.lasting
  supply hs := k.supply (h.supply hs)
  state sl := (k.state sl).trans (h.state sl)
  charged := k.charged.trans h.charged
  shedSet := k.shedSet.trans h.shedSet
  timers ht := k.timers (h.timers ht)
  covered hc := k.covered (h.covered hc)
  cooling hs hc := k.cooling (settingsLaw_of_lasting h.lasting hs) (h.cooling hs hc)
  orders sl ho := k.orders sl (h.orders sl ho)
  others y hy := (k.others y hy).trans (h.others y hy)

theorem Tends.after {z : AirZone} (k : Tends z t u) (h : Tends z s t) : Tends z s u := h.trans k

theorem Serves.tends (h : Serves s t) (z : AirZone) : Tends z s t where
  lasting := h.lasting
  supply := h.supply
  state sl := congrArg (fun v => v.state sl) h.view
  charged := congrArg View.charged h.view
  shedSet := congrArg View.shedSet h.view
  timers := h.timers
  covered := h.covered
  cooling := h.keeps.cooling
  orders := h.ordered
  others y _ := congrArg (fun v => (v.zone y).1) h.view

theorem CoolsAt.tends {z : AirZone} (h : CoolsAt z s t) : Tends z s t where
  lasting := h.lasting
  supply := .of_figures (read_lasting (·.settings) h.lasting) (read_lasting (·.bays) h.lasting)
    (congrArg figures h.ledger)
  state := h.state
  charged := congrArg Ledger.charged h.ledger
  shedSet := congrArg Ledger.shedSet h.ledger
  timers ht := h.ledger ▸ ht
  covered hc := by simpa only [Covered, h.ledger, read_lasting (·.dev) h.lasting] using hc
  cooling hs := h.coolingLaw (settingsLaw_trayMin hs)
  orders := h.orders
  others := h.others

theorem Tends.matched {z : AirZone} (h : Tends z s t) (hm : Matched (view s)) : Matched (view t) where
  charged sl := by
    have hc := hm.charged sl
    rwa [← show (view t).state sl = (view s).state sl from h.state sl,
      ← show (view t).charged = (view s).charged from h.charged] at hc
  shedSet sl := by
    have hc := hm.shedSet sl
    rwa [← show (view t).state sl = (view s).state sl from h.state sl,
      ← show (view t).shedSet = (view s).shedSet from h.shedSet] at hc
  held sl hk := by
    have hc := hm.held sl (by rwa [← show (view t).held sl = (view s).held sl from held_of_lasting h.lasting sl])
    rwa [← show (view t).state sl = (view s).state sl from h.state sl,
      ← show (view t).phase = (view s).phase from read_lasting (·.dev.phase) h.lasting] at hc

theorem Tends.keeps {z : AirZone} (h : Tends z s t) : Keeps s t where
  settings := settingsLaw_of_lasting h.lasting
  cooling := h.cooling
  ledger hl := by
    rw [ledgerLaw_iff] at hl ⊢
    exact ⟨h.matched hl.1, h.timers hl.2.1, h.covered hl.2.2⟩
  orders := h.orders

/-! ## Changes of a slot's state -/

/-- A piece of work after which the laws read the view `v`: it loses no order and keeps the timers. -/
structure Moves (s t : State) (v : View) : Prop where
  view : view t = v
  orders : ∀ x ∈ s.agenda, x ≠ .headroom → x ∈ t.agenda
  timers : Timers s.ledger → Timers t.ledger

theorem Works.moves (h : Works s t) : Moves s t (Power.view s) := ⟨h.view, h.orders, h.timers⟩

theorem Moves.trans {v w : View} (h : Moves s t v) (k : Moves t u w) : Moves s u w where
  view := k.view
  orders x hx hn := k.orders x (h.orders x hx hn) hn
  timers ht := k.timers (h.timers ht)

theorem Moves.works {v : View} (h : Moves s t v) (k : Works t u) : Moves s u v :=
  h.view ▸ h.trans k.moves

/-- Such work, followed by a recompute, keeps the law of the ledger when the new view is matched. -/
theorem Moves.ledgerLaw {v : View} (h : Moves s t v) (hs : s.LedgerLaw) (hv : Matched (Power.view s) → Matched v)
    (hc : Covered t) : t.LedgerLaw := by
  rw [ledgerLaw_iff] at hs ⊢
  exact ⟨h.view ▸ hv hs.1, h.timers hs.2.1, hc⟩

/-- Work that keeps `State.lasting` and the supply quantities. -/
def Lasts (s t : State) : Prop := t.lasting = s.lasting ∧ (SupplyKnown s → SupplyKnown t)

theorem Lasts.refl (s : State) : Lasts s s := ⟨rfl, id⟩

theorem Lasts.trans (h : Lasts s t) (k : Lasts t u) : Lasts s u := ⟨k.1.trans h.1, fun hs => k.2 (h.2 hs)⟩

theorem Lasts.after (k : Lasts t u) (h : Lasts s t) : Lasts s u := h.trans k

theorem Lasts.ite {c : Prop} [Decidable c] (ht : c → Lasts s t) (hu : ¬c → Lasts s u) :
    Lasts s (if c then t else u) := by
  split
  · exact ht ‹_›
  · exact hu ‹_›

theorem Serves.lasts (h : Serves s t) : Lasts s t := ⟨h.lasting, h.supply⟩

theorem Tends.lasts {z : AirZone} (h : Tends z s t) : Lasts s t := ⟨h.lasting, h.supply⟩

theorem Cools.lasts (h : Cools s t) : Lasts s t :=
  ⟨h.lasting, .of_figures (read_lasting (·.settings) h.lasting) (read_lasting (·.bays) h.lasting)
    (congrArg figures h.ledger)⟩

/-- A change of the ledger's sets, timers, order and pass. -/
theorem Lasts.of_ledger {l : Ledger} (ha : l.available = s.ledger.available)
    (hr : l.redundancyLost = s.ledger.redundancyLost) (hw : l.raw = s.ledger.raw)
    (hs : l.readouts = s.ledger.readouts) : Lasts s { s with ledger := l } :=
  ⟨rfl, fun h => by simpa only [SupplyKnown, ha, hr, hw, hs] using h⟩

theorem leaveShed_moves (sl : Slot) (s : State) :
    Moves s (s.leaveShed sl) { view s with shedSet := put s.ledger.shedSet sl false } := by
  unfold State.leaveShed
  dsimp only
  split
  · next hs =>
    have left : Moves s { s with ledger := { s.ledger with shedSet := put s.ledger.shedSet sl false } }
        { view s with shedSet := put s.ledger.shedSet sl false } :=
      ⟨rfl, fun _ hx _ => hx, fun ht => ⟨ht.1, fun k => ⟨(ht.2 k).1, hs⟩⟩⟩
    split
    · exact left
    · exact left.works (endPassIfDone_books _).serves.toWorks
  · have left : Moves s { s with ledger := { s.ledger with
          shedSet := put s.ledger.shedSet sl false, restoreTimer := none } }
        { view s with shedSet := put s.ledger.shedSet sl false } :=
      ⟨rfl, fun _ hx _ => hx, fun ht => ⟨ht.1, fun k => absurd rfl k⟩⟩
    exact left.works ((endPass_books _).serves.trans (condition_reports ..).serves).toWorks

theorem leaveShed_lasts (sl : Slot) (s : State) : Lasts s (s.leaveShed sl) := by
  have left : Lasts s { s with ledger := { s.ledger with shedSet := put s.ledger.shedSet sl false } } :=
    .of_ledger rfl rfl rfl rfl
  refine .ite (fun _ => .ite (fun _ => left) fun _ => left.trans (endPassIfDone_books _).serves.lasts) fun _ => ?_
  exact ((endPass_books _).serves.trans (condition_reports ..).serves).lasts.after
    (Lasts.of_ledger rfl rfl rfl rfl)

theorem putSlot_moves (sl : Slot) (e : SlotEntry) (s : State) :
    Moves s { s with slots := put s.slots sl e }
      { view s with state := fun k => if k = sl then e.state else (s.slotAt k).state } where
  view := by
    refine congrArg (fun f => { view s with state := f }) (funext fun k => ?_)
    rw [slotAt_put]
    split <;> rfl
  orders _ hx _ := hx
  timers := id

/-- A slot takes a state: the laws read it with the shed set that R47 leaves, and what lasts stays. -/
theorem enterSlotState_spec (sl : Slot) (st : SlotState) (c : Cause) (s : State) :
    Moves s (s.enterSlotState sl st c) ((view s).enter sl st) ∧ Lasts s (s.enterSlotState sl st c) := by
  have event : Serves { s with slots := put s.slots sl { s.slotAt sl with state := st, cause := some c } }
      ((s.setSlot sl { s.slotAt sl with state := st, cause := some c }).slotEvent sl c) :=
    ((setSlot_reports ..).trans (slotEvent_reports ..)).serves
  have state := (putSlot_moves sl { s.slotAt sl with state := st, cause := some c } s).works event.toWorks
  have lasts : Lasts s _ := event.lasts.after ⟨lasting_putSlot rfl, id⟩
  have shed : ((s.setSlot sl { s.slotAt sl with state := st, cause := some c }).slotEvent sl c).ledger.shedSet =
      s.ledger.shedSet := congrArg View.shedSet event.view
  unfold State.enterSlotState
  dsimp only
  split
  · next h =>
    refine ⟨?_, lasts.trans (leaveShed_lasts ..)⟩
    rw [View.enter_of_leaving h]
    have left := state.trans (leaveShed_moves sl _)
    rwa [state.view, shed] at left
  · next h =>
    refine ⟨?_, lasts⟩
    rw [View.enter_of_not_leaving h]
    exact state

theorem enterSlotState_moves (sl : Slot) (st : SlotState) (c : Cause) (s : State) :
    Moves s (s.enterSlotState sl st c) ((view s).enter sl st) := (enterSlotState_spec sl st c s).1

theorem enterSlotState_lasts (sl : Slot) (st : SlotState) (c : Cause) (s : State) :
    Lasts s (s.enterSlotState sl st c) := (enterSlotState_spec sl st c s).2

theorem setSlotState_serves (sl : Slot) (st : SlotState) (c : Cause) (s : State) :
    Serves (s.enterSlotState sl st c) (s.setSlotState sl st c) :=
  .ite (fun _ => .refl _) fun _ => (condition_reports ..).serves

theorem setSlotState_moves (sl : Slot) (st : SlotState) (c : Cause) (s : State) :
    Moves s (s.setSlotState sl st c) ((view s).enter sl st) :=
  (enterSlotState_moves ..).works (setSlotState_serves ..).toWorks

theorem setSlotState_lasts (sl : Slot) (st : SlotState) (c : Cause) (s : State) :
    Lasts s (s.setSlotState sl st c) := (enterSlotState_lasts ..).trans (setSlotState_serves ..).lasts

theorem Moves.state {sl : Slot} {st : SlotState} (h : Moves s t ((Power.view s).enter sl st)) (k : Slot) :
    (t.slotAt k).state = if k = sl then st else (s.slotAt k).state := congrArg (fun v => v.state k) h.view

theorem Moves.temp {sl : Slot} {st : SlotState} (h : Moves s t ((Power.view s).enter sl st)) (z : AirZone) :
    (t.zoneAt z).temp = (s.zoneAt z).temp := congrArg (fun v => (v.zone z).1) h.view

/-- A slot's change of state keeps every other slot's order, and its own unless it begins to draw power. -/
theorem Moves.ordered {sl : Slot} {st : SlotState} (h : Moves s t ((Power.view s).enter sl st)) {k : Slot}
    (hk : k ≠ sl ∨ ¬Drawing st) (ho : Ordered s k) : Ordered t k := by
  intro hh
  refine h.orders _ (ho ?_) (by simp)
  have hs := h.state k
  by_cases e : k = sl
  · rw [if_pos e] at hs
    exact absurd (hs ▸ hh.1) (hk.resolve_left (· e))
  · rw [if_neg e] at hs
    exact ⟨hs ▸ hh.1, h.temp _ ▸ hh.2⟩

theorem Moves.settingsLaw {sl : Slot} {st : SlotState} (h : Moves s t ((Power.view s).enter sl st))
    (hs : s.SettingsLaw) : t.SettingsLaw :=
  settingsLaw_congr (congrArg View.settings h.view) (congrArg View.config h.view) (congrArg View.write h.view) hs

theorem Moves.coolingLaw {sl : Slot} {st : SlotState} (h : Moves s t ((Power.view s).enter sl st))
    (hc : s.CoolingLaw) : t.CoolingLaw :=
  coolingLaw_congr (by rw [h.view]; rfl) (by rw [h.view]; rfl) (by rw [h.view]; rfl)
    (congrArg View.settings h.view) hc

/-- Between slots that draw no power, and out of SHED, a change of state keeps the laws. -/
theorem Moves.keeps {sl : Slot} {st : SlotState} (h : Moves s t ((Power.view s).enter sl st)) (hc : Covered s → Covered t)
    (ho : s.LedgerLaw → ¬Drawing (s.slotAt sl).state) (hn : ¬Drawing st) (hs : st ≠ .shed)
    (hh : s.LedgerLaw → (s.auxAt sl).held = none ∨ st = .empty ∨ st = .qualifying) : Keeps s t where
  settings := h.settingsLaw
  cooling _ := h.coolingLaw
  ledger hl := h.ledgerLaw hl (fun hm => hm.enter (ho hl) hn hs (hh hl)) (hc ((ledgerLaw_iff s).1 hl).2.2)
  orders _ := h.ordered (.inr hn)

end Sys2Proof.Power
end

section
/-! A blade leaves power, is powered up, and enters POWERED (R14, R16); and the notices and orders carried out at
the end of a command (R45, R48, R63, R64). -/

namespace Sys2Proof.Power
open Sys2Proof Sys2Proof.Machine

variable {s t u : State}

/-! ## What the law of the ledger reads -/

/-- The part of the view that the law of the ledger reads. -/
def View.power (v : View) : View :=
  { v with
    settings := Settings.default
    config := none
    write := none
    latches := fill 3 ⟨false, false⟩
    tray := fun _ => (.absent, 0)
    zone := fun _ => (.normal, 0) }

theorem Matched.of_power {v w : View} (h : v.power = w.power) (hw : Matched w) : Matched v := by
  have k : Matched v.power := h ▸ (⟨hw.charged, hw.shedSet, hw.held⟩ : Matched w.power)
  exact ⟨k.charged, k.shedSet, k.held⟩

theorem Tends.power {z : AirZone} (h : Tends z s t) : (view t).power = (view s).power := by
  have phase : t.dev.phase = s.dev.phase := read_lasting (·.dev.phase) h.lasting
  have state : (view t).state = (view s).state := funext h.state
  have held : (view t).held = (view s).held := funext (held_of_lasting h.lasting)
  simp only [View.power]
  rw [state, held]
  exact congr (congrArg₂ (fun p c d => { (view s).power with phase := p, charged := c, shedSet := d }) phase
    h.charged) h.shedSet

theorem Moves.power {sl : Slot} {st : SlotState} (h : Moves s t ((Power.view s).enter sl st)) :
    (Power.view t).power = (Power.view s).power.enter sl st := by rw [h.view]; rfl

theorem leaveShed_covered (sl : Slot) (h : Covered s) : Covered (s.leaveShed sl) := by
  unfold State.leaveShed
  dsimp only
  split
  · split
    · exact h
    · exact (endPassIfDone_books _).covered h
  · exact (condition_reports ..).books.covered ((endPass_books _).covered h)

theorem enterSlotState_covered (sl : Slot) (st : SlotState) (c : Cause) (h : Covered s) :
    Covered (s.enterSlotState sl st c) := by
  have event : Covered ((s.setSlot sl { s.slotAt sl with state := st, cause := some c }).slotEvent sl c) :=
    ((setSlot_reports ..).trans (slotEvent_reports ..)).books.covered h
  unfold State.enterSlotState
  dsimp only
  split
  · exact leaveShed_covered sl event
  · exact event

theorem setSlotState_covered (sl : Slot) (st : SlotState) (c : Cause) (h : Covered s) :
    Covered (s.setSlotState sl st c) := (setSlotState_serves ..).covered (enterSlotState_covered sl st c h)

/-- A slot that draws no power takes another such state than SHED. -/
theorem setSlotState_keeps {sl : Slot} {st : SlotState} (c : Cause)
    (ho : s.LedgerLaw → ¬Drawing (s.slotAt sl).state)
    (hn : ¬Drawing st) (hs : st ≠ .shed)
    (hh : s.LedgerLaw → (s.auxAt sl).held = none ∨ st = .empty ∨ st = .qualifying) :
    Keeps s (s.setSlotState sl st c) :=
  (setSlotState_moves ..).keeps (setSlotState_covered sl st c) ho hn hs hh

theorem held_eq_none (h : s.LedgerLaw) {sl : Slot} (he : (s.slotAt sl).state ≠ .empty)
    (hq : (s.slotAt sl).state ≠ .qualifying) : (s.auxAt sl).held = none :=
  ((ledgerLaw_iff s).1 h).1.held_eq_none he hq

/-! ## Leaving power -/

theorem removePower_tends (sl : Slot) (s : State) : Tends (zoneOfSlot sl) s (s.removePower sl) := by
  have off : Serves s ((((s.setAux sl { s.auxAt sl with line := false, readyTimer := none }).withdrawPower sl).setAux
      sl { (((s.setAux sl { s.auxAt sl with line := false, readyTimer := none }).withdrawPower sl).auxAt sl) with
        enabled := fill 48 false }).bladeOff sl |>.enforceOff sl) :=
    (enforceOff_serves ..).after ((bladeOff_serves ..).after (Serves.after (setAux_serves rfl rfl)
      ((withdrawPower_serves ..).after (setAux_serves rfl rfl))))
  exact ((off.tends _).trans (coolingLeave_coolsAt sl _).tends).trans ((leftPowering_books sl _).serves.tends _)

theorem takeRemoval_moves (sl : Slot) (s : State) : Moves s (s.takeRemoval sl) { view s with
    charged := put s.ledger.charged sl false
    shedSet := if (s.slotAt sl).state = .shed then put s.ledger.shedSet sl true else s.ledger.shedSet } := by
  by_cases h : (s.slotAt sl).state = .shed
  · have e : s.takeRemoval sl = State.joinShed sl { s with ledger := { s.ledger with
        order := if s.ledger.order = some sl then none else s.ledger.order
        charged := put s.ledger.charged sl false } } := if_pos h
    rw [if_pos h, e]
    refine Moves.works (t := { s with ledger := { s.ledger with
        order := if s.ledger.order = some sl then none else s.ledger.order
        charged := put s.ledger.charged sl false
        shedSet := put s.ledger.shedSet sl true } }) ⟨rfl, fun _ hx _ => hx, fun ht => ⟨ht.1, fun k => ?_⟩⟩
      (condition_reports ..).works
    exact ⟨(ht.2 k).1, (anySet_iff _).2 ⟨sl, look_put_same ..⟩⟩
  · have e : s.takeRemoval sl = { s with ledger := { s.ledger with
        order := if s.ledger.order = some sl then none else s.ledger.order
        charged := put s.ledger.charged sl false } } := if_neg h
    rw [if_neg h, e]
    exact ⟨rfl, fun _ hx _ => hx, id⟩

theorem takeRemoval_lasts (sl : Slot) (s : State) : Lasts s (s.takeRemoval sl) :=
  .ite (fun _ => (condition_reports ..).serves.lasts.after (Lasts.of_ledger rfl rfl rfl rfl)) fun _ =>
    .of_ledger rfl rfl rfl rfl

theorem takeRemoval_hot (sl k : Slot) (s : State) : Hot (s.takeRemoval sl) k ↔ Hot s k := by
  have h := takeRemoval_moves sl s
  have e₁ : ((s.takeRemoval sl).slotAt k).state = (s.slotAt k).state := congrArg (fun v => v.state k) h.view
  have e₂ : ((s.takeRemoval sl).zoneAt (zoneOfSlot k)).temp = (s.zoneAt (zoneOfSlot k)).temp :=
    congrArg (fun v => (v.zone (zoneOfSlot k)).1) h.view
  rw [Hot, Hot, e₁, e₂]

theorem takeRemoval_coolingLaw (sl : Slot) (h : s.CoolingLaw) : (s.takeRemoval sl).CoolingLaw :=
  have view := (takeRemoval_moves sl s).view
  coolingLaw_congr (by rw [view]) (by rw [view]) (by rw [view]) (congrArg View.settings view) h

/-- The removal notice: what lasts, the other laws and every order stay (step 8 of R16). -/
theorem removalNotice_lasts (sl : Slot) (s : State) : Lasts s (s.removalNotice sl) :=
  (takeRemoval_lasts ..).trans (recomputeNow_serves _).lasts

theorem removalNotice_coolingLaw (sl : Slot) (hs : s.SettingsLaw) (h : s.CoolingLaw) :
    (s.removalNotice sl).CoolingLaw :=
  (recomputeNow_serves _).keeps.cooling (settingsLaw_of_lasting (takeRemoval_lasts ..).1 hs)
    (takeRemoval_coolingLaw sl h)

theorem removalNotice_ordered (sl k : Slot) (h : Ordered s k) : Ordered (s.removalNotice sl) k :=
  (recomputeNow_serves _).ordered k fun hk =>
    (takeRemoval_moves sl s).orders _ (h ((takeRemoval_hot sl k s).1 hk)) (by simp)

theorem removalNotice_state (sl k : Slot) (s : State) :
    ((s.removalNotice sl).slotAt k).state = (s.slotAt k).state :=
  (congrArg (fun v => v.state k) (recomputeNow_serves (s.takeRemoval sl)).view).trans
    (congrArg (fun v => v.state k) (takeRemoval_moves sl s).view)

theorem removalNotice_temp (sl : Slot) (z : AirZone) (s : State) :
    ((s.removalNotice sl).zoneAt z).temp = (s.zoneAt z).temp :=
  (congrArg (fun v => (v.zone z).1) (recomputeNow_serves (s.takeRemoval sl)).view).trans
    (congrArg (fun v => (v.zone z).1) (takeRemoval_moves sl s).view)

/-- A slot that drew power in `s` has taken another state in `t`: its removal notice makes the law of the ledger
true again. -/
theorem removalNotice_ledgerLaw {sl : Slot} {st : SlotState} (hm : Matched (view s))
    (ho : Drawing (s.slotAt sl).state) (hn : ¬Drawing st) (hv : (view t).power = (view s).power.enter sl st)
    (ht : Timers t.ledger) : (t.removalNotice sl).LedgerLaw := by
  have compute := recomputeNow_serves (t.takeRemoval sl)
  have take := takeRemoval_moves sl t
  refine (ledgerLaw_iff _).2 ⟨?_, compute.timers (take.timers ht), (serve_serves _).covered (recompute_covered _)⟩
  have hst : (t.slotAt sl).state = st := (congrArg (fun v => v.state sl) hv).trans (if_pos rfl)
  have hc : t.ledger.charged = s.ledger.charged := congrArg View.charged hv
  have hsh : t.ledger.shedSet = s.ledger.shedSet := by
    refine (congrArg View.shedSet hv).trans (congrArg View.shedSet (View.enter_of_not_leaving fun k => ?_))
    have e : (s.slotAt sl).state = .shed := k.1
    rw [e] at ho
    simp [Drawing] at ho
  have hp : (view (t.removalNotice sl)).power = View.power { (view t) with
      charged := put t.ledger.charged sl false
      shedSet := if (t.slotAt sl).state = .shed then put t.ledger.shedSet sl true else t.ledger.shedSet } :=
    congrArg View.power (compute.view.trans take.view)
  refine (hm.uncharge ho hn).of_power (hp.trans ?_)
  rw [hst, hc, hsh]
  exact congrArg (fun v => { v with
    charged := put s.ledger.charged sl false
    shedSet := if st = SlotState.shed then put s.ledger.shedSet sl true else s.ledger.shedSet }) hv

theorem leavePower_of_drawing {sl : Slot} (h : Drawing (s.slotAt sl).state) (st : SlotState) (c : Cause) :
    s.leavePower sl st c = ((s.setSlotState sl st c).removePower sl).removalNotice sl := if_pos h

theorem leavePower_of_not_drawing {sl : Slot} (h : ¬Drawing (s.slotAt sl).state) (st : SlotState) (c : Cause) :
    s.leavePower sl st c = s := if_neg h

/-- What leaving power does to slot states and temperature states. -/
theorem leavePower_state {sl : Slot} (h : Drawing (s.slotAt sl).state) (st : SlotState) (c : Cause) (k : Slot) :
    ((s.leavePower sl st c).slotAt k).state = if k = sl then st else (s.slotAt k).state :=
  leavePower_of_drawing h st c ▸ (removalNotice_state sl k _).trans
    (((removePower_tends sl _).state k).trans ((setSlotState_moves sl st c s).state k))

theorem leavePower_temp {sl : Slot} {z : AirZone} (h : z ≠ zoneOfSlot sl) (st : SlotState) (c : Cause) :
    ((s.leavePower sl st c).zoneAt z).temp = (s.zoneAt z).temp := by
  by_cases hd : Drawing (s.slotAt sl).state
  · exact leavePower_of_drawing hd st c ▸ (removalNotice_temp sl z _).trans
      (((removePower_tends sl _).others z h).trans ((setSlotState_moves sl st c s).temp z))
  · rw [leavePower_of_not_drawing hd]

theorem leavePower_lasts (sl : Slot) (st : SlotState) (c : Cause) (s : State) : Lasts s (s.leavePower sl st c) :=
  .ite (fun _ => ((setSlotState_lasts ..).trans (removePower_tends ..).lasts).trans (removalNotice_lasts ..))
    fun _ => .refl s

/-- A slot that drew power has taken another state, its power is removed, and the notice follows (R16, R17). -/
theorem removal_keeps {sl : Slot} {st : SlotState} (hd : Drawing (s.slotAt sl).state) (hn : ¬Drawing st)
    (enter : Moves s t ((view s).enter sl st)) (work : Works (t.removePower sl) u) : Keeps s (u.removalNotice sl) := by
  have remove := removePower_tends sl t
  have settings : s.SettingsLaw → u.SettingsLaw := fun hs =>
    work.keeps.settings (settingsLaw_of_lasting remove.lasting (enter.settingsLaw hs))
  refine ⟨fun hs => settingsLaw_of_lasting (removalNotice_lasts ..).1 (settings hs), fun hs hc => ?_, fun hl => ?_,
    fun k ho => removalNotice_ordered _ k (work.ordered k (remove.orders k (enter.ordered (.inr hn) ho)))⟩
  · exact removalNotice_coolingLaw sl (settings hs) (work.keeps.cooling
      (settingsLaw_of_lasting remove.lasting (enter.settingsLaw hs))
      (remove.cooling (enter.settingsLaw hs) (enter.coolingLaw hc)))
  · obtain ⟨matched, timers, -⟩ := (ledgerLaw_iff s).1 hl
    exact removalNotice_ledgerLaw matched hd hn
      (((congrArg View.power work.view).trans remove.power).trans enter.power)
      (work.timers (remove.timers (enter.timers timers)))

/-- A blade leaves power for a state in which it draws none (R16). -/
theorem leavePower_keeps (sl : Slot) {st : SlotState} (hn : ¬Drawing st) (c : Cause) (s : State) :
    Keeps s (s.leavePower sl st c) :=
  .ite (fun hd => removal_keeps hd hn (setSlotState_moves ..) (.refl _)) fun _ => .refl s

/-! ## Taking up power -/

theorem shutdownEntry_works (sl : Slot) (s : State) : Serves s (s.shutdownEntry sl) :=
  .ite (fun _ => hand_serves ..) fun _ => .refl s

/-- A slot asked for its order has it where its zone is in SHUTDOWN (R64). -/
theorem shutdownEntry_ordered (sl : Slot) (s : State) : Ordered (s.shutdownEntry sl) sl := by
  intro h
  have hz : (s.zoneAt (zoneOfSlot sl)).temp = .shutdown := ((hot_of_view (shutdownEntry_works sl s).view sl).1 h).2
  rw [State.shutdownEntry, if_pos hz]
  exact mem_hand.2 (.inr rfl)

theorem powerUp_lasts (sl : Slot) (c : Cause) (s : State) : Lasts s (s.powerUp sl c) := by
  have charge : Lasts s (s.charge sl) := .of_ledger rfl rfl rfl rfl
  have line : Serves ((s.charge sl).setSlotState sl .powering c) (((((s.charge sl).setSlotState sl .powering c).setLine
      sl true).setReadyTimer sl (some Config.readyMs)).enqueue (.powerEnable sl)) :=
    (enqueue_serves ..).after (Serves.after (setAux_serves rfl rfl) (setAux_serves rfl rfl))
  exact ((charge.trans (setSlotState_lasts ..)).trans line.lasts).trans
    ((recomputeNow_serves _).trans (shutdownEntry_works ..)).lasts

/-- An admitted slot is charged and enters POWERING; it is no candidate for adoption (R14, R40). -/
theorem powerUp_keeps {sl : Slot} (c : Cause) (hh : s.LedgerLaw → (s.auxAt sl).held = none) :
    Keeps s (s.powerUp sl c) := by
  have enter := setSlotState_moves sl .powering c (s.charge sl)
  have line : Serves ((s.charge sl).setSlotState sl .powering c) (((((s.charge sl).setSlotState sl .powering c).setLine
      sl true).setReadyTimer sl (some Config.readyMs)).enqueue (.powerEnable sl)) :=
    (enqueue_serves ..).after (Serves.after (setAux_serves rfl rfl) (setAux_serves rfl rfl))
  have compute := (line.trans (recompute_serves _)).trans (serve_serves _)
  have entry := shutdownEntry_works sl (State.recomputeNow (((((s.charge sl).setSlotState sl .powering c).setLine
      sl true).setReadyTimer sl (some Config.readyMs)).enqueue (.powerEnable sl)))
  have rest := compute.trans entry
  refine ⟨fun hs => rest.keeps.settings (enter.settingsLaw hs),
    fun hs hc => rest.keeps.cooling (enter.settingsLaw hs) (enter.coolingLaw hc), fun hl => ?_, fun k ho => ?_⟩
  · have matched := ((ledgerLaw_iff s).1 hl).1
    refine (ledgerLaw_iff _).2 ⟨?_, rest.timers (enter.timers ((ledgerLaw_iff s).1 hl).2.1),
      entry.covered ((serve_serves _).covered (recompute_covered _))⟩
    have hv : view (s.powerUp sl c) = _ := rest.view.trans enter.view
    rw [hv]
    exact matched.charge (.inl rfl) (hh hl)
  · by_cases e : k = sl
    · subst e
      exact shutdownEntry_ordered k (State.recomputeNow _)
    · exact rest.ordered k (enter.ordered (.inl e) ho)

/-- A POWERING slot enters POWERED (R14). -/
theorem enterPowered_keeps {sl : Slot} (h : (s.slotAt sl).state = .powering) : Keeps s (s.enterPowered sl) := by
  have timer : Serves s (s.setReadyTimer sl none) := setAux_serves rfl rfl
  have enter := setSlotState_moves sl .powered .ready (s.setReadyTimer sl none)
  have told := (((bladePowered_serves sl ((s.setReadyTimer sl none).setSlotState sl .powered .ready)).trans
    (enforcePowerUp_serves sl .power _)).tends (zoneOfSlot sl)).trans (coolingJoin_coolsAt sl _).tends
  have left := leftPowering_books sl (State.shutdownEntry sl (State.coolingJoin sl (State.enforcePowerUp sl .power
    (State.bladePowered sl ((s.setReadyTimer sl none).setSlotState sl .powered .ready)))))
  have rest := told.keeps.trans ((shutdownEntry_works sl _).trans left.serves).keeps
  refine timer.keeps.trans ⟨fun hs => rest.settings (enter.settingsLaw hs),
    fun hs hc => rest.cooling (enter.settingsLaw hs) (enter.coolingLaw hc), fun hl => rest.ledger ?_, fun k ho => ?_⟩
  · have drawing : Drawing ((s.setReadyTimer sl none).slotAt sl).state :=
      .inl ((congrArg (fun v => v.state sl) timer.view).trans h)
    exact enter.ledgerLaw hl (fun hm => hm.enter_drawing drawing (.inr rfl))
      (setSlotState_covered sl .powered .ready ((ledgerLaw_iff _).1 hl).2.2)
  · by_cases e : k = sl
    · subst e
      exact left.serves.ordered k (shutdownEntry_ordered k _)
    · exact rest.orders k (enter.ordered (.inl e) ho)

end Sys2Proof.Power
end

section
/-! The notices and orders carried out at the end of a command (assumption 4): they keep the laws, and leave no
blade powered in a zone in SHUTDOWN. -/

namespace Sys2Proof.Power
open Sys2Proof Sys2Proof.Machine

variable {s t u : State}

/-! ## The restore pass (R48) -/

theorem admitCandidate_lasts (c : Slot) (s : State) : Lasts s (s.admitCandidate c) :=
  ((mapPass_books _ s).serves.lasts.trans (powerUp_lasts ..)).trans
    ((ledgerEvent_reports ..).serves.trans (endPassIfDone_books _).serves).lasts

theorem admitCandidate_keeps {c : Slot} (h : s.LedgerLaw → (s.auxAt c).held = none) :
    Keeps s (s.admitCandidate c) := by
  have pass := mapPass_books (fun p => { p with waiting := some c }) s
  refine (pass.serves.keeps.trans (powerUp_keeps .restored fun hl => h ?_)).trans
    ((ledgerEvent_reports ..).serves.trans (endPassIfDone_books _).serves).keeps
  exact hl

theorem mem_candidates {c : Slot} (h : c ∈ s.candidates) : look s.ledger.shedSet c = true := by
  unfold State.candidates at h
  split at h
  · cases h
  · exact (Bool.and_eq_true _ _ ▸ (List.mem_filter.1 h).2).2

/-- A candidate of a restore pass is no candidate for adoption. -/
theorem held_of_candidate {c : Slot} (h : c ∈ s.candidates) (hl : s.LedgerLaw) : (s.auxAt c).held = none := by
  have hs : (s.slotAt c).state = .shed := (((ledgerLaw_iff s).1 hl).1.shedSet c).1 (mem_candidates h)
  exact held_eq_none hl (by rw [hs]; decide) (by rw [hs]; decide)

theorem restoreStep_spec (s : State) : Keeps s s.restoreStep ∧ Lasts s s.restoreStep := by
  unfold State.restoreStep
  split
  · exact ⟨.refl s, .refl s⟩
  · split
    · exact ⟨.refl s, .refl s⟩
    · split
      · exact ⟨(endPass_books s).serves.keeps, (endPass_books s).serves.lasts⟩
      · next c l hc =>
        have offered := (mapPass_books (fun p => { p with remaining := put p.remaining c false }) s).serves
        dsimp only
        split
        · have skip := (skipCandidate_books c (s.mapPass fun p => { p with remaining := put p.remaining c false })).serves
          exact ⟨offered.keeps.trans skip.keeps, offered.lasts.trans skip.lasts⟩
        · have hm : c ∈ s.candidates := hc ▸ List.mem_cons_self
          exact ⟨offered.keeps.trans (admitCandidate_keeps fun hl => held_of_candidate (s := s) hm hl),
            offered.lasts.trans (admitCandidate_lasts ..)⟩

theorem restoreStep_keeps (s : State) : Keeps s s.restoreStep := (restoreStep_spec s).1

theorem restoreStep_lasts (s : State) : Lasts s s.restoreStep := (restoreStep_spec s).2

/-! ## One notice or order -/

theorem not_drawing_shed : ¬Drawing .shed := by simp [Drawing]
theorem not_drawing_thermalOff : ¬Drawing .thermalOff := by simp [Drawing]

theorem runTask_keeps (x : Task) (s : State) : Keeps s (s.runTask x) := by
  cases x with
  | headroom => exact ((headroomWalk_serves [] s).trans (serve_serves _)).keeps
  | shed sl => exact leavePower_keeps sl not_drawing_shed .shed s
  | thermalOff sl => exact leavePower_keeps sl not_drawing_thermalOff .thermal s
  | restore => exact restoreStep_keeps s

theorem runTask_lasts (x : Task) (s : State) : Lasts s (s.runTask x) := by
  cases x with
  | headroom => exact ((headroomWalk_serves [] s).trans (serve_serves _)).lasts
  | shed sl => exact leavePower_lasts sl .shed .shed s
  | thermalOff sl => exact leavePower_lasts sl .thermalOff .thermal s
  | restore => exact restoreStep_lasts s

/-- A thermal-off order leaves its slot cold. -/
theorem not_hot_thermalOff (sl : Slot) (s : State) : ¬Hot (s.leavePower sl .thermalOff .thermal) sl := by
  intro h
  by_cases hd : Drawing (s.slotAt sl).state
  · have hs := leavePower_state hd .thermalOff .thermal sl
    rw [if_pos rfl] at hs
    exact not_drawing_thermalOff (hs ▸ h.1)
  · exact hd ((leavePower_of_not_drawing hd .thermalOff .thermal) ▸ h.1)

/-- It makes no other slot hot: the blade that leaves changes the temperature state of its own zone alone, which
is in SHUTDOWN already. -/
theorem hot_of_hot_thermalOff {sl k : Slot} (hs : Hot s sl) (hk : Hot (s.leavePower sl .thermalOff .thermal) k) :
    Hot s k := by
  have ne : k ≠ sl := fun e => not_hot_thermalOff sl s (e ▸ hk)
  have state := leavePower_state hs.1 .thermalOff .thermal k
  rw [if_neg ne] at state
  refine ⟨state ▸ hk.1, ?_⟩
  by_cases hz : zoneOfSlot k = zoneOfSlot sl
  · exact hz ▸ hs.2
  · exact leavePower_temp hz .thermalOff .thermal ▸ hk.2

/-- Taking the oldest notice off the agenda and carrying it out keeps every other order, and its own is done. -/
theorem runTask_ordered {x : Task} {rest : List Task} (ha : s.agenda = x :: rest) {sl : Slot}
    (ho : Ordered s sl) : Ordered (State.runTask x { s with agenda := rest }) sl := by
  by_cases e : x = .thermalOff sl
  · subst e
    exact fun hh => absurd hh (not_hot_thermalOff sl _)
  · refine (runTask_keeps x _).orders sl fun hh => ?_
    have hm := ho hh
    rw [ha] at hm
    exact (List.mem_cons.1 hm).resolve_left (Ne.symm e)

/-! ## The bound (assumption 4) -/

theorem hotSlot_eq_none (h : s.hotSlot = none) (sl : Slot) : ¬Hot s sl := by
  have k := List.find?_eq_none.1 h sl (mem_allFin sl)
  simpa [Hot, Classical.not_and_iff_not_or_not, not_and_or] using k

theorem hotSlot_eq_some {sl : Slot} (h : s.hotSlot = some sl) : Hot s sl := by
  have k := List.find?_some h
  simpa [Hot] using k

theorem thermalSweep_keeps (n : Nat) (s : State) : Keeps s (s.thermalSweep n) := by
  induction n generalizing s with
  | zero => exact .refl s
  | succ n ih =>
    rw [State.thermalSweep]
    split
    · exact .refl s
    · exact (leavePower_keeps _ not_drawing_thermalOff _ s).trans (ih _)

theorem thermalSweep_lasts (n : Nat) (s : State) : Lasts s (s.thermalSweep n) := by
  induction n generalizing s with
  | zero => exact .refl s
  | succ n ih =>
    rw [State.thermalSweep]
    split
    · exact .refl s
    · exact (leavePower_lasts ..).trans (ih _)

/-- A sweep of as many steps as there can be hot slots leaves none. -/
theorem thermalSweep_cold (n : Nat) {l : List Slot} (hl : l.length ≤ n) (hs : ∀ sl, Hot s sl → sl ∈ l) (k : Slot) :
    ¬Hot (s.thermalSweep n) k := by
  induction n generalizing s l with
  | zero =>
    obtain rfl := List.length_eq_zero_iff.1 (Nat.le_zero.1 hl)
    exact fun h => absurd (hs k h) List.not_mem_nil
  | succ n ih =>
    rw [State.thermalSweep]
    split
    · next h => exact hotSlot_eq_none h k
    · next x h =>
      have hx := hotSlot_eq_some h
      refine ih (l := l.erase x) ?_ fun j hj => ?_
      · rw [List.length_erase_of_mem (hs x hx)]
        omega
      · have ne : j ≠ x := fun e => not_hot_thermalOff x s (e ▸ hj)
        exact (List.mem_erase_of_ne ne).2 (hs j (hot_of_hot_thermalOff hx hj))

/-! ## All of them -/

theorem drain_lasts (n : Nat) (s : State) : Lasts s (s.drain n) := by
  induction n generalizing s with
  | zero => exact thermalSweep_lasts 8 s
  | succ n ih =>
    rw [State.drain]
    split
    · exact .refl s
    · exact ((runTask_lasts _ _).trans (ih _)).after ⟨rfl, id⟩

theorem drain_coolingLaw (n : Nat) (hs : s.SettingsLaw) (h : s.CoolingLaw) : (s.drain n).CoolingLaw := by
  induction n generalizing s with
  | zero => exact (thermalSweep_keeps 8 s).cooling hs h
  | succ n ih =>
    rw [State.drain]
    split
    · exact h
    · exact ih ((runTask_keeps _ _).settings hs) ((runTask_keeps _ _).cooling hs h)

theorem drain_ledgerLaw (n : Nat) (h : s.LedgerLaw) : (s.drain n).LedgerLaw := by
  induction n generalizing s with
  | zero => exact (thermalSweep_keeps 8 s).ledger h
  | succ n ih =>
    rw [State.drain]
    split
    · exact h
    · exact ih ((runTask_keeps _ _).ledger h)

theorem drain_cold (n : Nat) (h : ∀ sl, Ordered s sl) (sl : Slot) : ¬Hot (s.drain n) sl := by
  induction n generalizing s with
  | zero => exact thermalSweep_cold (l := allSlots) 8 (by simp [allSlots, allFin]) (fun k _ => mem_allFin k) sl
  | succ n ih =>
    rw [State.drain]
    split
    · next ha => exact fun hh => absurd (ha ▸ h sl hh) List.not_mem_nil
    · next ha => exact ih fun k => runTask_ordered ha (h k)

theorem settle_lasts (s : State) : Lasts s s.settle := drain_lasts ..

/-! ## What a command keeps -/

/-- The laws of a command from `s` to `t`. -/
structure Laws (s t : State) : Prop where
  settings : s.SettingsLaw → t.SettingsLaw
  cooling : s.SettingsLaw → s.CoolingLaw → t.CoolingLaw
  ledger : s.LedgerLaw → t.LedgerLaw
  shutdown : s.agenda = [] → s.ShutdownLaw → t.ShutdownLaw

theorem Laws.refl (s : State) : Laws s s := ⟨id, fun _ h => h, id, fun _ h => h⟩

theorem Laws.ite {c : Prop} [Decidable c] (ht : c → Laws s t) (hu : ¬c → Laws s u) :
    Laws s (if c then t else u) := by
  split
  · exact ht ‹_›
  · exact hu ‹_›

/-- The end of a command carries out what its rule handed on. -/
theorem Keeps.settle (h : Keeps s t) : Laws s t.settle where
  settings hs := settingsLaw_of_lasting (settle_lasts t).1 (h.settings hs)
  cooling hs hc := drain_coolingLaw _ (h.settings hs) (h.cooling hs hc)
  ledger hl := drain_ledgerLaw _ (h.ledger hl)
  shutdown _ hs := (shutdownLaw_iff _).2
    (drain_cold _ fun sl => h.orders sl fun hh => absurd hh ((shutdownLaw_iff s).1 hs sl))

/-- Work that hands nothing on. -/
theorem Works.laws (h : Works s t) : Laws s t where
  settings := h.keeps.settings
  cooling := h.keeps.cooling
  ledger := h.keeps.ledger
  shutdown _ hs := (shutdownLaw_iff _).2 fun sl k => (shutdownLaw_iff s).1 hs sl ((hot_of_view h.view sl).1 k)

theorem Laws.works (h : Laws s t) (k : Works t u) : Laws s u where
  settings hs := k.keeps.settings (h.settings hs)
  cooling hs hc := k.keeps.cooling (h.settings hs) (h.cooling hs hc)
  ledger hl := k.keeps.ledger (h.ledger hl)
  shutdown ha hs := (shutdownLaw_iff _).2 fun sl hh =>
    (shutdownLaw_iff t).1 (h.shutdown ha hs) sl ((hot_of_view k.view sl).1 hh)

end Sys2Proof.Power
end

section
/-! The recompute obligations: what a recompute derives (R25 to R31), and the overcommit a shortfall opens (R43,
R45). -/

namespace Sys2Proof.Power
open Sys2Proof Sys2Proof.Machine

variable {s t u : State}

/-- Every quantity, readout and flag after a recompute in RUNNING is that of the refreshed stages. -/
theorem recompute_figures (h : s.dev.phase = .running) :
    figures s.recompute.ledger = figures (refreshed s.ledgerStages s.settings.scale) := by
  rw [recompute_of_running h]
  exact ledgerSteps_figures s.ledger.headroom { s with ledger := s.ledgerStages }

theorem headroom_mem_recompute (h : s.dev.phase = .running) : Task.headroom ∈ s.recompute.agenda ↔
    Task.headroom ∈ s.agenda ∨
      (s.recompute.ledger.overcommit = .closed ∧ s.ledger.headroom < s.recompute.ledger.headroom) := by
  rw [recompute_of_running h]
  exact headroom_mem_ledgerSteps s.ledger.headroom { s with ledger := s.ledgerStages }

/-- Settles O28: the figures are those of the refreshed stages, and a recompute's frame is that of its rules. -/
theorem recomputeFollowsTheInputs : Obligations.RecomputeFollowsTheInputs := by
  rintro s t rfl
  refine ⟨recompute_of_starting, fun h => ?_⟩
  have read : ∀ {α : Type} (f : Ledger → α), (∀ l, f (figures l) = f l) →
      f s.recompute.ledger = f (refreshed s.ledgerStages s.settings.scale) :=
    fun f hf => figures_read f (recompute_figures h) hf
  refine ⟨read (·.figure) fun _ => rfl, read (·.raw) fun _ => rfl, read (·.available) fun _ => rfl,
    read (·.redundancyLost) fun _ => rfl, read (·.cps) fun _ => rfl, read (·.trays) fun _ => rfl,
    read (·.blades) fun _ => rfl, read (·.grants) fun _ => rfl, read (·.demand) fun _ => rfl, ?_,
    read (·.measured) fun _ => rfl, ?_, ?_, ?_, ?_, ?_, read (·.charged) fun _ => rfl,
    read (·.shedSet) fun _ => rfl, headroom_mem_recompute h, (recompute_serves s).lasting⟩
  · rw [read (·.headroom) fun _ => rfl, read (·.available) fun _ => rfl, read (·.demand) fun _ => rfl]
    rfl
  · rw [read (·.margin) fun _ => rfl, read (·.available) fun _ => rfl]
    rfl
  · rw [read (·.readouts) fun _ => rfl, read (·.readoutSet s.settings.scale) fun _ => rfl]
    rfl
  · rw [read (·.clamp) fun _ => rfl, read (·.saturates s.settings.scale) fun _ => rfl]
    rfl
  · rw [read (·.low) fun _ => rfl, read (·.headroom) fun _ => rfl, read (·.margin) fun _ => rfl]
    rfl
  · rw [read (·.headroomLow) fun _ => rfl, read (·.low) fun _ => rfl]
    rfl

/-! ## A shortfall -/

/-- SHEDDING is entered with the grace timer stopped and the first slot to shed ordered (R43, R45). -/
theorem startShedding_spec (c : Half) (s : State) :
    (s.startShedding c).ledger.graceTimer = none ∧
    (s.startShedding c).ledger.restoreTimer = s.ledger.restoreTimer ∧
    (s.startShedding c).ledger.pass = s.ledger.pass ∧
    ∀ sl, s.lowestCharged = some sl →
      (s.startShedding c).ledger.order = some sl ∧ Task.shed sl ∈ (s.startShedding c).agenda := by
  have lowest : (State.ledgerEvent 2 0 c { s with ledger := { s.ledger with
      overcommit := .shedding, graceTimer := none } }).lowestCharged = s.lowestCharged := rfl
  unfold State.startShedding State.orderShed
  rw [lowest]
  split
  · next h => exact ⟨rfl, rfl, rfl, fun sl k => absurd (h.symm.trans k) nofun⟩
  · next x h =>
    obtain ⟨g, e⟩ := hand_frame (.shed x) _
    refine ⟨?_, ?_, ?_, fun sl k => ⟨?_, ?_⟩⟩
    · rw [e]; rfl
    · rw [e]; rfl
    · rw [e]; rfl
    · rw [e]; exact h.symm.trans k
    · exact Option.some.inj (h.symm.trans k) ▸ mem_hand.2 (.inr rfl)

/-- R43 up to the choice between GRACE and SHEDDING leaves no pass and no restore timer. -/
theorem opening_spec (s : State) : (opening s).ledger.pass = none ∧
    (opening s).ledger.restoreTimer = none ∧ (opening s).ledger.order = s.ledger.order := by
  have reported : ((s.ledgerEvent 0 0 s.headroomField).condition overcommitPoint true).ledger = s.ledger :=
    ((ledgerEvent_reports ..).trans (condition_reports ..)).read (·.ledger)
  unfold opening State.endPass
  dsimp only
  split
  · exact ⟨rfl, rfl, congrArg (·.order) reported⟩
  · next h => exact ⟨by simpa using h, rfl, congrArg (·.order) reported⟩

theorem opening_settings (s : State) : (opening s).settings = s.settings := by
  obtain ⟨_, _, _, _, _, -, e⟩ := (opening_books s).frame
  rw [e]

theorem opening_lowestCharged (s : State) : (opening s).lowestCharged = s.lowestCharged := by
  have hc : (opening s).ledger.charged = s.ledger.charged := figures_read (·.charged) (opening_books s).figures
  rw [State.lowestCharged, State.lowestCharged, opening_settings, hc]

/-- What the opening of an overcommit leaves (R43, R45). -/
theorem openOvercommit_spec (s : State) :
    s.openOvercommit.ledger.restoreTimer = none ∧ s.openOvercommit.ledger.pass = none ∧
    (s.ledger.raw < s.ledger.measured ∨ s.settings.graceTime = 0 →
      s.openOvercommit.ledger.overcommit = .shedding ∧ s.openOvercommit.ledger.graceTimer = none ∧
      ∀ sl, s.lowestCharged = some sl →
        s.openOvercommit.ledger.order = some sl ∧ Task.shed sl ∈ s.openOvercommit.agenda) ∧
    (¬(s.ledger.raw < s.ledger.measured) → s.settings.graceTime ≠ 0 →
      s.openOvercommit.ledger.overcommit = .grace ∧
      s.openOvercommit.ledger.graceTimer = some (s.settings.graceTime * 1000) ∧
      s.openOvercommit.ledger.order = s.ledger.order) := by
  have raw : (opening s).ledger.raw = s.ledger.raw := figures_read (·.raw) (opening_books s).figures
  have measured : (opening s).ledger.measured = s.ledger.measured :=
    figures_read (·.measured) (opening_books s).figures
  obtain ⟨pass, timer, order⟩ := opening_spec s
  have shed : ∀ c, s.openOvercommit = (opening s).startShedding c →
      s.openOvercommit.ledger.restoreTimer = none ∧ s.openOvercommit.ledger.pass = none ∧
      s.openOvercommit.ledger.overcommit = .shedding ∧ s.openOvercommit.ledger.graceTimer = none ∧
      ∀ sl, s.lowestCharged = some sl →
        s.openOvercommit.ledger.order = some sl ∧ Task.shed sl ∈ s.openOvercommit.agenda := by
    intro c e
    obtain ⟨grace, restore, keptPass, ordered⟩ := startShedding_spec c (opening s)
    rw [opening_lowestCharged] at ordered
    rw [e]
    exact ⟨restore.trans timer, keptPass.trans pass, startShedding_overcommit .., grace, ordered⟩
  have e := openOvercommit_eq s
  rw [raw, measured, opening_settings] at e
  by_cases hm : s.ledger.raw < s.ledger.measured
  · rw [if_pos hm] at e
    obtain ⟨h₁, h₂, h₃⟩ := shed 1 e
    exact ⟨h₁, h₂, fun _ => h₃, fun k => absurd hm k⟩
  · rw [if_neg hm] at e
    by_cases hg : s.settings.graceTime = 0
    · rw [if_pos hg] at e
      obtain ⟨h₁, h₂, h₃⟩ := shed 3 e
      exact ⟨h₁, h₂, fun _ => h₃, fun _ k => absurd hg k⟩
    · rw [if_neg hg] at e
      rw [e]
      refine ⟨timer, pass, fun k => absurd k (not_or_intro hm hg), fun _ _ => ⟨rfl, ?_, order⟩⟩
      show some ((opening s).settings.graceTime * 1000) = _
      rw [opening_settings]

/-- Settles O29: the rules of R43 on the refreshed stages, which keep the overcommit state, the order and the
charged slots that the recompute found. -/
theorem shortfallOpensAnOvercommit : Obligations.ShortfallOpensAnOvercommit := by
  rintro s t hp hc hh rfl
  let stages : State := { s with ledger := s.ledgerStages }
  let x := stages.deriveReadouts.deriveLow.condition redundancyLostPoint
    stages.deriveReadouts.deriveLow.ledger.redundancyLost
  have reports := (derive_reports stages).trans
    (condition_reports redundancyLostPoint stages.deriveReadouts.deriveLow.ledger.redundancyLost _)
  have ledger : x.ledger = refreshed s.ledgerStages s.settings.scale := reports.read (·.ledger)
  have settings : x.settings = s.settings := reports.read (·.settings)
  have rules : derived stages = x.overcommitRules := rfl
  have closed : x.ledger.overcommit = .closed := (congrArg (·.overcommit) ledger).trans hc
  have short : x.ledger.headroom < 0 := (congrArg (·.headroom) ledger).trans_lt hh
  have charged : x.ledger.charged = s.ledger.charged := congrArg (·.charged) ledger
  refine ⟨fun hn => ?_, fun hy => ?_⟩
  · have stay : x.overcommitRules = x := by simp [State.overcommitRules, closed, charged, hn]
    rw [recompute_of_running hp, ledgerSteps_overcommit, rules, stay, closed]
  · have opened : derived stages = x.openOvercommit := by
      rw [rules]; simp [State.overcommitRules, closed, short, charged, hy]
    have e : s.recompute = x.openOvercommit := by
      rw [recompute_of_running hp, ledgerSteps_eq, opened, if_neg]
      exact fun k => openOvercommit_not_closed x k.1
    have raw : x.ledger.raw = s.ledgerStages.raw := congrArg (·.raw) ledger
    have measured : x.ledger.measured = s.ledgerStages.measured := congrArg (·.measured) ledger
    have order : x.ledger.order = s.ledger.order := congrArg (·.order) ledger
    have lowest : x.lowestCharged = s.lowestCharged := by
      rw [State.lowestCharged, State.lowestCharged, settings, charged]
    have spec := openOvercommit_spec x
    rw [raw, measured, settings, order, lowest] at spec
    rw [e]
    exact spec

end Sys2Proof.Power
end

section
/-! Requests that pass the arbiter: the reads, and the settings of the power ledger (R25, R32 to R38, R86, R151). -/

namespace Sys2Proof.Power
open Sys2Proof Sys2Proof.Machine

variable {s t u : State}

/-! ## The gate -/

/-- Every role may read (R143). -/
theorem holdsRight_read (l : LinkId) (s : State) : s.holdsRight .read l = true := by
  unfold State.holdsRight
  split
  · rfl
  · split <;> rfl

/-- GET STATUS passes in STARTING too (R182). -/
theorem request_status {h : Header} (up : (s.linkAt h.link).up = true)
    (free : (s.linkAt h.link).outstanding = none) (sized : h.sized = true) (f : State → State) :
    s.request .read true h f = f s := by
  have pass : s.refusal .read true h = none := by
    simp [State.refusal, free, sized, holdsRight_read, Right.epochChecked]
  rw [State.request, if_pos up, pass]

/-- Settles O15: each read's block answers with its summary. -/
theorem readsAnswerAndChangeNothing : Obligations.ReadsAnswerAndChangeNothing := by
  intro s h
  have read : ∀ (hp : s.Passes .read h) (r : State → Results),
      Host.Outcome.next (s.request .read false h fun s => s.respond h.link h.tag .ok (r s)) =
        (.next (s.answered h .ok (r s)) : Host.Outcome State Fault Refusal) :=
    fun hp r => congrArg _ (request_of_passes hp ..)
  exact ⟨fun up free sized => congrArg Host.Outcome.next (request_status up free sized _),
    fun hp => ⟨read hp fun s => .ledger s.ledgerSummary, read hp fun s => .cooling s.coolingSummary,
      read hp fun s => .pool s.poolSummary, read hp fun s => .zoning s.zoningSummary,
      read hp fun s => .arbiter s.rolesSummary, read hp fun s => .alarms s.alarmSummary,
      read hp fun s => .queue (s.queueSummary h.link)⟩⟩

/-! ## Settings -/

theorem respondSetting_same (h : Header) {n v : Nat} (e : v = n) (f : Settings) (r : Results) (s : State) :
    (s.changeSettings f).respondSetting h (v ≠ n) r = s.tookSettings h f .ok .none := by
  rw [State.respondSetting, if_neg (by simp [e]), respond_eq_answered, answered_changeSettings]

theorem respondSetting_clamped (h : Header) {n v : Nat} (e : v ≠ n) (f : Settings) (r : Results) (s : State) :
    (s.changeSettings f).respondSetting h (v ≠ n) r = s.tookSettings h f .adjusted r := by
  rw [State.respondSetting, if_pos (by simp [e]), respond_eq_answered, answered_changeSettings]

/-- A setting with an upper end only. -/
theorem respondSetting_min (h : Header) (n b : Nat) (f : Settings) (s : State) :
    (s.changeSettings f).respondSetting h (min n b ≠ n) (.value (min n b : Nat)) =
      s.tookSettings h f (if n ≤ b then .ok else .adjusted) (if n ≤ b then .none else .value b) := by
  by_cases e : n ≤ b
  · rw [if_pos e, if_pos e]
    exact respondSetting_same h (Nat.min_eq_left e) f _ s
  · have hb : min n b = b := Nat.min_eq_right (Nat.le_of_not_le e)
    rw [if_neg e, if_neg e, hb]
    exact respondSetting_clamped h (fun k => e k.ge) f _ s

/-- Settles O36: each value is clamped to its range, and the settings take it. -/
theorem timeSettingsClampAndApply : Obligations.TimeSettingsClampAndApply := by
  intro s h n hp
  have lease : exec (.setLeaseTime h n) s = .next (s.setLeaseTime h n) :=
    congrArg Host.Outcome.next (request_of_passes hp ..)
  have value : ∀ v, clampNat 500 30000 n = v → s.setLeaseTime h n =
      (s.changeSettings { s.settings with leaseTime := v }).respondSetting h (v ≠ n) (.value v) := by
    rintro v rfl
    rfl
  refine ⟨congrArg Host.Outcome.next ((request_of_passes hp ..).trans (respondSetting_min h n 60 _ s)),
    congrArg Host.Outcome.next ((request_of_passes hp ..).trans (respondSetting_min h n 3600 _ s)),
    fun lo hi => ?_, fun lo => ?_, fun hi => ?_⟩
  · rw [lease, value n (by rw [clampNat]; omega)]
    exact congrArg _ (respondSetting_same h rfl _ _ s)
  · rw [lease, value 500 (by rw [clampNat]; omega)]
    exact congrArg _ (respondSetting_clamped h lo.ne' _ _ s)
  · rw [lease, value 30000 (by rw [clampNat]; omega)]
    exact congrArg _ (respondSetting_clamped h hi.ne _ _ s)

/-! ## The ledger's own requests -/

/-- Settles O33: each flag is kept where its cause stands, and a recompute sets it by its cause. -/
theorem clearStickyTakesBothFlags : Obligations.ClearStickyTakesBothFlags := by
  refine ⟨fun s h hp => congrArg Host.Outcome.next (request_of_passes hp ..), fun s hr => ?_⟩
  have read : ∀ {α : Type} (f : Ledger → α), (∀ l, f (figures l) = f l) →
      f s.recompute.ledger = f (refreshed s.ledgerStages s.settings.scale) :=
    fun f hf => figures_read f (recompute_figures hr) hf
  refine ⟨fun h => ?_, fun h => ?_, ?_⟩
  · rw [read (·.low) fun _ => rfl] at h
    rw [read (·.headroomLow) fun _ => rfl]
    exact Bool.or_eq_true_iff.2 (.inr h)
  · rw [read (·.saturates s.settings.scale) fun _ => rfl] at h
    rw [read (·.clamp) fun _ => rfl]
    exact Bool.or_eq_true_iff.2 (.inr h)
  · rw [read (·.saturated) fun _ => rfl, read (·.saturates s.settings.scale) fun _ => rfl]
    rfl

/-- Settings changed before the ledger, answered: the ledger changed, then the settings taken. -/
theorem tookSettings_ledger (h : Header) (f : Settings) (l : Ledger) (st : Status) (r : Results) (s : State) :
    State.respond h.link h.tag st r { s.changeSettings f with ledger := l } =
      State.tookSettings { s with ledger := l } h f st r := by
  rw [← answered_changeSettings]
  unfold State.changeSettings
  split
  · rfl
  · rfl

theorem changeSettings_ledger (f : Settings) (s : State) : (s.changeSettings f).ledger = s.ledger := by
  unfold State.changeSettings
  split <;> rfl

theorem changeSettings_settings (f : Settings) (s : State) : (s.changeSettings f).settings = f := by
  unfold State.changeSettings
  split
  · next e => exact e.symm
  · rfl

/-- What turning auto-restore on or off does is done to the ledger alone. -/
theorem autoRestoreEffect_ledger (v : Bool) (s : State) :
    s.autoRestoreEffect v = { s with ledger := (s.autoRestoreEffect v).ledger } := by
  unfold State.autoRestoreEffect State.endPass
  split
  · split <;> rfl
  · split <;> rfl

/-- Settles O34. -/
theorem setAutoRestoreActsOnTimerAndPass : Obligations.SetAutoRestoreActsOnTimerAndPass := by
  intro s h hp
  have run : ∀ on, exec (.setAutoRestore h on) s = .next (s.setAutoRestore h on) :=
    fun on => congrArg Host.Outcome.next (request_of_passes hp ..)
  have changed : ∀ v l, v ≠ s.settings.autoRestore →
      ((s.changeSettings { s.settings with autoRestore := v }).autoRestoreEffect v).ledger = l →
      exec (.setAutoRestore h (some v)) s = .next (State.tookSettings { s with ledger := l } h
        { s.settings with autoRestore := v } .ok .none) := by
    rintro v l hv rfl
    have taken : s.setAutoRestore h (some v) = ((s.changeSettings { s.settings with
        autoRestore := v }).autoRestoreEffect v).respond h.link h.tag .ok .none := if_neg hv
    rw [run, taken, ← tookSettings_ledger, autoRestoreEffect_ledger]
  refine ⟨run none, fun v hv => ?_, fun hf => changed true _ (by simp [hf]) ?_,
    fun hf => changed false _ (by simp [hf]) ?_⟩
  · rw [run, State.setAutoRestore, if_pos hv]
    rfl
  · unfold State.autoRestoreEffect State.graceMs
    rw [if_pos rfl, changeSettings_ledger, changeSettings_settings, apply_ite State.ledger,
      changeSettings_ledger]
    split
    · rfl
    · rfl
  · unfold State.autoRestoreEffect State.endPass
    rw [if_neg nofun, changeSettings_ledger]
    cases hq : s.ledger.pass <;> simp [hq]

/-! ## Shed priority (R37) -/

theorem slotOfNumber_eq_some {n : Nat} {sl : Slot} : slotOfNumber n = some sl ↔ sl.val + 1 = n := by
  unfold slotOfNumber
  split
  · simp only [Option.some.injEq, Fin.ext_iff]
    omega
  · simp only [reduceCtorEq, false_iff]
    omega

/-- A list of numbers names the slots numbered so. -/
theorem mapM_slotOfNumber_eq_some {l : List Nat} {m : List Slot} :
    l.mapM slotOfNumber = some m ↔ m.map (fun i => i.val + 1) = l := by
  induction l generalizing m with
  | nil => cases m <;> simp
  | cons n l ih =>
    cases m with
    | nil => simp [List.mapM_cons, Option.bind_eq_some_iff]
    | cons i m => simp [List.mapM_cons, Option.bind_eq_some_iff, slotOfNumber_eq_some, ih]

theorem exists_slots (p : Vector Slot 8) : ∃ a b c d e f g h, p = #v[a, b, c, d, e, f, g, h] :=
  ⟨look p 0, look p 1, look p 2, look p 3, look p 4, look p 5, look p 6, look p 7,
    look_ext fun i => by fin_cases i <;> rfl⟩

/-- A list of numbers is taken exactly when it is a permutation of slots 1 to 8 (R37). -/
theorem shedPriorityOf_eq_some {l : List Nat} {p : Vector Slot 8} :
    shedPriorityOf l = some p ↔ p.toList.map (fun i => i.val + 1) = l ∧ p.toList.Nodup := by
  rw [← mapM_slotOfNumber_eq_some]
  obtain ⟨a, b, c, d, e, f, g, h, rfl⟩ := exists_slots p
  unfold shedPriorityOf
  split
  · next hm =>
    rw [hm, Option.ite_none_right_eq_some, Option.some.injEq, Option.some.injEq]
    constructor
    · rintro ⟨hn, hv⟩
      have hl := congrArg Vector.toList hv
      exact ⟨hl, hl ▸ hn⟩
    · rintro ⟨hv, hn⟩
      exact ⟨hv ▸ hn, Vector.toList_inj.1 hv⟩
  · next hm => exact ⟨nofun, fun k => absurd k.1 (hm a b c d e f g h)⟩

/-- Settles O35. -/
theorem setShedPriorityTakesPermutations : Obligations.SetShedPriorityTakesPermutations := by
  intro s h l hp
  have run : exec (.setShedPriority h l) s = .next (s.setPriority h l) :=
    congrArg Host.Outcome.next (request_of_passes hp ..)
  refine ⟨fun p hl hn => ?_, fun hno => ?_, rfl, fun x hx => ?_⟩
  · rw [run, State.setPriority, shedPriorityOf_eq_some.2 ⟨hl, hn⟩]
    exact congrArg _ (answered_changeSettings ..)
  · have none : shedPriorityOf l = none :=
      Option.eq_none_iff_forall_ne_some.2 fun p k => hno ⟨p, shedPriorityOf_eq_some.1 k⟩
    rw [run, State.setPriority, none]
    rfl
  · rw [State.candidates, hx]

/-! ## Settings that derive again (R25) -/

/-- Re-deriving under new settings and answering is what `TookDerived` says of it. -/
theorem reDerive_tookDerived (h : Header) (f : Settings) (st : Status) (r : Results) (s : State) :
    TookDerived s ((s.changeSettings f).reDerive.respond h.link h.tag st r) h f st r := by
  have settings := changeSettings_settings f s
  have ledger := changeSettings_ledger f s
  have queues : (s.changeSettings f).queues = s.queues := by unfold State.changeSettings; split <;> rfl
  have counts : (s.changeSettings f).counts = s.counts := by unfold State.changeSettings; split <;> rfl
  have epoch : (s.changeSettings f).arbiter.epoch = s.arbiter.epoch := by
    unfold State.changeSettings; split <;> rfl
  have took := answered_changeSettings s h f st r
  generalize s.changeSettings f = u at settings ledger queues counts epoch took ⊢
  obtain ⟨c, e, others⟩ := derive_eq { u with ledger := { u.ledger with
    margin := marginOf u.ledger.available u.settings.warnPercent } }
  have re : u.reDerive = _ := e
  have again : (u.reDerive).ledger = reDerived s.ledger f := by
    rw [re, ← ledger, ← settings]
    rfl
  have notice : u.reDerive.queues = if (reDerived s.ledger f).low = s.ledger.low then s.queues
      else s.queues.map fun q => q.offer .ledger 0 (if (reDerived s.ledger f).low then 8 else 9)
        (s16 (readoutOf f.scale s.ledger.headroom)) s.arbiter.epoch := by
    rw [re, ← ledger, ← settings, ← epoch, ← queues]
    rfl
  have low : (u.reDerive.respond h.link h.tag st r).ledger.low = (reDerived s.ledger f).low :=
    congrArg (·.low) again
  refine ⟨again, fun hl => ?_, fun hl => ?_, fun tb ht => ?_, ?_⟩
  · exact notice.trans (if_pos (low ▸ hl))
  · rw [low]
    exact notice.trans (if_neg (low ▸ hl))
  · rw [State.countOf, State.countOf, ← counts]
    exact (congrArg (fun v => look v (Table.idx tb)) (congrArg State.counts re)).trans (others tb ht)
  · rw [← took, re, ← ledger, ← queues, ← counts]
    rfl

/-- Settles O32. -/
theorem warningAndScaleReDerive : Obligations.WarningAndScaleReDerive := by
  intro s h hp
  refine ⟨fun n => ⟨_, congrArg Host.Outcome.next (request_of_passes hp ..), ?_⟩,
    congrArg Host.Outcome.next (request_of_passes hp ..),
    fun x => ⟨_, congrArg Host.Outcome.next (request_of_passes hp ..), reDerive_tookDerived ..⟩⟩
  unfold State.setWarning State.respondSetting
  by_cases e : n ≤ 50
  · rw [if_neg (by simp [e]), if_pos e, if_pos e]
    exact reDerive_tookDerived ..
  · have hm : min n 50 = 50 := Nat.min_eq_right (Nat.le_of_not_le e)
    rw [if_pos (by simpa using Nat.lt_of_not_le e), if_neg e, if_neg e, hm]
    exact reDerive_tookDerived ..

/-! ## The redundancy policy (R34) -/

/-- The state with settings taken and CONFIG marked dirty when they changed. -/
theorem changeSettings_eq (f : Settings) (s : State) : s.changeSettings f = { s with
    settings := f
    store := { s.store with dirty := if f = s.settings then s.store.dirty else put s.store.dirty 0 true } } := by
  unfold State.changeSettings
  by_cases e : f = s.settings
  · subst e
    simp only [if_true]
  · simp only [if_neg e]
    rfl

theorem answered_lasting (h : Header) (st : Status) (r : Results) (e : t.lasting = s.lasting) :
    (t.answered h st r).lasting = (s.answered h st r).lasting :=
  congrArg (fun v => State.answered v h st r) e

/-- A recompute in RUNNING leaves the supply quantities of the present bays and policy. -/
theorem recompute_supply (h : s.dev.phase = .running) : SupplyKnown s.recompute := by
  rw [recompute_of_running h]
  exact ledgerSteps_supply _ s

/-- Settles O31: the recompute leaves the supply quantities of the new policy, and what follows it keeps them. -/
theorem setPolicyRecomputes : Obligations.SetPolicyRecomputes := by
  intro s h hp hq
  have run : ∀ p, exec (.setRedundancyPolicy h p) s = .next (s.setPolicy h p).settle := fun p =>
    congrArg (fun t => Host.Outcome.next (State.settle t)) (request_of_passes hp ..)
  refine ⟨(run none).trans (congrArg _ (settle_of_quiet _ hq)), ?_⟩
  rintro p f cap u rfl rfl hu
  obtain ⟨-, -, running, -⟩ := hp
  have taken : s.changeSettings { s.settings with policy := p } = u := (changeSettings_eq _ s).trans hu.symm
  have serves := serve_serves u.recompute
  have known : SupplyKnown (u.recompute.serve) := serves.supply (recompute_supply (hu ▸ running))
  have lasting : (u.recompute.serve).lasting = u.lasting := serves.lasting.trans (recompute_serves u).lasting
  have bays : (u.recompute.serve).bays = s.bays := (read_lasting (·.bays) lasting).trans (hu ▸ rfl)
  have settings : (u.recompute.serve).settings = { s.settings with policy := p } :=
    (read_lasting (·.settings) lasting).trans (hu ▸ rfl)
  have shown : (u.recompute.serve).ledger.readouts.available = readoutOf s.settings.scale
      (capacityOf p (s.bays.map BayEntry.counts) (s.bays.map supplyFigure)).1 := by
    obtain ⟨-, -, -, e⟩ := known
    rwa [bays, settings] at e
  have answer : s.setPolicy h (some p) = (u.recompute.serve).answered h .ok (.value (readoutOf s.settings.scale
      (capacityOf p (s.bays.map BayEntry.counts) (s.bays.map supplyFigure)).1)) := by
    rw [← shown, ← taken]
    rfl
  obtain ⟨kept, supply⟩ := settle_lasts ((u.recompute.serve).answered h .ok (.value (readoutOf s.settings.scale
    (capacityOf p (s.bays.map BayEntry.counts) (s.bays.map supplyFigure)).1)))
  have last := supply known
  rw [SupplyKnown, (read_lasting (·.bays) kept).trans bays, (read_lasting (·.settings) kept).trans settings] at last
  obtain ⟨available, lost, raw, readout⟩ := last
  refine ⟨_, (run _).trans (congrArg _ (congrArg _ answer)), rfl, available, lost, raw, readout, kept.trans ?_⟩
  rw [answered_lasting h _ _ lasting, hu]
  rfl

end Sys2Proof.Power
end

section
/-! What the pool, the port manager's edits and the zoning engine leave of what the laws of power and cooling
read. -/

namespace Sys2Proof.Power
open Sys2Proof Sys2Proof.Machine

variable {s t u : State}

/-! ## Rows of a blade, and the pool (R80, R85, R87, R90, R102 to R104) -/

theorem pool_works (x : Pool) (s : State) : Works s { s with pool := x } := .of_view rfl rfl rfl

theorem zoning_works (x : Zoning) (s : State) : Works s { s with zoning := x } := .of_view rfl rfl rfl

theorem rowsQualify_works (sl : Slot) (i : BladeIdentity) (s : State) : Works s (s.rowsQualify sl i) := by
  refine .foldl (fun t p => ?_) _ s
  split
  · exact .refl t
  · exact writeRow_works ..

theorem rowsLost_works (sl : Slot) (s : State) : Works s (s.rowsLost sl) :=
  .foldl (fun _ _ => writeRow_works ..) _ s

theorem stopParkIfEmpty_serves (sl : Slot) (s : State) : Serves s (s.stopParkIfEmpty sl) :=
  .ite (fun _ => setAux_serves rfl rfl) fun _ => .refl s

theorem setUnits_works (x : UnitState) (ps : List Port) (s : State) :
    Works s (ps.foldl (fun t p => t.setUnit p x) s) :=
  .foldl (fun _ _ => setUnit_works ..) _ s

theorem parkExpire_works (sl : Slot) (s : State) : Works s (s.parkExpire sl) := by
  have freed := (setUnits_works .none (s.portsIn sl .parked)
    (s.setAux sl { s.auxAt sl with parkTimer := none })).after (setAux_works rfl)
  exact ((licenceEvent_reports ..).serves.trans (availability_serves _)).toWorks.after freed

theorem parkUnits_works (sl : Slot) (s : State) : Works s (s.parkUnits sl) := by
  have parked := setUnits_works .parked (s.portsIn sl .assigned) s
  exact .ite (fun _ => .refl s) fun _ => (Works.ite (fun _ => parkExpire_works ..) fun _ => .refl _).after
    ((licenceEvent_reports ..).works.after (Works.after (setAux_works rfl) parked))

theorem restoreParked_works (sl : Slot) (i : BladeIdentity) (s : State) : Works s (s.restoreParked sl i) := by
  have timer : Works s (s.setAux sl { s.auxAt sl with parkTimer := none }) := setAux_works rfl
  exact .ite (fun _ => (Works.ite (fun _ => .refl _) fun _ =>
      ((licenceEvent_reports ..).serves.trans (availability_serves _)).toWorks).after
    ((Works.ite (fun _ => .refl _) fun _ => (licenceEvent_reports ..).works).after
      ((setUnits_works ..).after ((setUnits_works ..).after timer)))) fun _ => .refl s

theorem evalExpiring_works (s : State) : Works s s.evalExpiring :=
  (Works.ite (fun _ => .refl _) fun _ => (condition_reports ..).works).after (.of_view rfl rfl rfl)

theorem deriveCapacity_works (s : State) : Works s s.deriveCapacity := .of_view rfl rfl rfl

theorem reclaimOne_works (p : Port) (tier : Nat) (out : List Port) (s : State) :
    Works s (s.reclaimOne p tier out) :=
  .ite (fun _ => ((serveBut_serves ..).after ((portCommand_serves ..).after (recompute_serves _))).toWorks.after
      ((writeRow_works ..).after (report_reports ..).works))
    fun _ => (stopParkIfEmpty_serves ..).toWorks.after ((setUnit_works ..).after (report_reports ..).works)

theorem reclaim_works (n : Nat) (out : List Port) (s : State) : Works s (s.reclaim n out) := by
  induction n generalizing s out with
  | zero => exact .refl s
  | succ n ih =>
    rw [State.reclaim]
    split
    · exact .refl s
    · exact (reclaimOne_works ..).trans (ih ..)

theorem capacityEffect_works (old : Nat) (s : State) : Works s (s.capacityEffect old) :=
  .ite (fun _ => reclaim_works ..) fun _ =>
    .ite (fun _ => (availability_serves s).toWorks) fun _ => .refl s

theorem settleClaim_works (s : State) (p : Port) : Works s (s.settleClaim p) :=
  .ite (fun _ => setUnit_works ..) fun _ => .refl s

theorem judgeAdopted_serves (s : State) (p : Port) : Serves s (s.judgeAdopted p) := by
  refine .ite (fun _ => ?_) fun _ => .refl s
  split
  · exact goDown_serves ..
  · exact .ite (fun _ => goDown_serves ..) fun _ => setCond_serves ..

theorem settleClaims_works (s : State) : Works s s.settleClaims := by
  have claims : Works s (s.pool.claims.foldl State.settleClaim s) := .foldl settleClaim_works _ s
  have judged := claims.trans (Serves.foldl judgeAdopted_serves allPorts _).toWorks
  unfold State.settleClaims
  dsimp only
  refine (((licenceEvent_reports ..).serves.trans (evalDeficit_serves _)).trans
    ((availability_serves _).trans (evalDeficit_serves _))).toWorks.after ?_
  exact (pool_works _ _).after judged

theorem adoptRows_works (sl : Slot) (held : Vector Bool 48) (s : State) : Works s (s.adoptRows sl held) := by
  refine (Works.foldl (fun t p => ?_) _ _).after (setAux_works rfl)
  have claimed : Works t (if (t.rowAt p).cls = .pool then (t.writeRow p { t.rowAt p with
      cond := .adopted, grant := true }).claimUnit p else t.writeRow p { t.rowAt p with cond := .adopted, grant := true }) :=
    .ite (fun _ => (pool_works _ _).after (writeRow_works ..)) fun _ => writeRow_works ..
  exact .ite (fun _ => claimed) fun _ => (evaluate_serves p t).toWorks

/-! ## The transaction and the commit (R112 to R131) -/

theorem bump_works (tb : Table) (s : State) : Works s (s.bump tb) := (bump_reports tb s).works

theorem setTxn_works (x : Option Transaction) (s : State) : Works s (s.setTxn x) := .of_view rfl rfl rfl

theorem runEdit_works (h : Header) (f : ZoneDb → EditResult) (s : State) : Works s (s.runEdit h f) := by
  unfold State.runEdit
  split
  · exact respond_works ..
  · split
    · exact respond_works ..
    · split
      · exact respond_works ..
      · exact respond_works ..
      · exact ((setTxn_works ..).trans (bump_works ..)).trans (respond_works ..)
      · exact ((setTxn_works ..).trans (bump_works ..)).trans (respond_works ..)

theorem answerCommit_works (l : LinkId) (st : Status) (r : Results) (s : State) :
    Works s (s.answerCommit l st r) := by
  unfold State.answerCommit
  split
  · exact .ite (fun _ => setLink_works ..) fun _ => .refl s
  · exact .refl s

theorem abort_works (c : AbortCause) (s : State) : Works s (s.abort c) := by
  unfold State.abort
  split
  · exact .refl s
  · exact (((setTxn_works ..).trans (bump_works ..)).trans (bump_works ..)).trans (report_reports ..).works

theorem abortByLoss_works (c : AbortCause) (s : State) : Works s (s.abortByLoss c) := by
  unfold State.abortByLoss
  split
  · exact .refl s
  · exact .ite (fun _ => (Works.ite (fun _ => .refl _) fun _ => answerCommit_works ..).after
      ((zoning_works _ _).after (abort_works c s))) fun _ => abort_works ..

theorem failValidation_works (l : LinkId) (st : Status) (r : Results) (s : State) :
    Works s (s.failValidation l st r) :=
  (answerCommit_works ..).after (.of_view rfl rfl rfl)

theorem passValidation_works (x : Transaction) (s : State) : Works s (s.passValidation x) :=
  (answerCommit_works ..).after ((commitProgress_reports ..).works.after ((markDirty_works ..).after
    ((bump_works ..).after ((bump_works ..).after ((bump_works ..).after ((bump_works ..).after
      (.of_view rfl rfl rfl)))))))

theorem becomePrevious_serves (s : State) (sl : Slot) : Serves s (s.becomePrevious sl) := setEnforcement_serves ..

theorem examineTooSmall_serves (s : State) (sl : Slot) : Serves s (s.examineTooSmall sl) :=
  .ite (fun _ => startPush_serves ..) fun _ => .refl s

/-- Steps 2 to 4 of R131 on the new wait set. -/
theorem distributeTo_serves (l : List Slot) (s : State) : Serves s ((allSlots.foldl State.examineTooSmall
    (l.foldl (fun t sl => t.queuePush sl) (l.foldl State.becomePrevious s))).endDistribution) :=
  ((Serves.foldl becomePrevious_serves l s).trans (.foldl (fun t sl => queuePush_serves sl t) l _)).trans
    ((Serves.foldl examineTooSmall_serves allSlots _).trans (endDistribution_serves _))

theorem distribute_works (s : State) : Works s s.distribute := by
  unfold State.distribute
  dsimp only
  refine (distributeTo_serves _ _).toWorks.after ?_
  exact (commitProgress_reports ..).works.after ((bump_works ..).after (zoning_works _ s))

theorem endSaving_works (good : Bool) (s : State) : Works s (s.endSaving good) :=
  (Works.ite (fun _ => distribute_works _) fun _ => (finishCommit_serves _).toWorks).after
    ((commitProgress_reports ..).works.after (.of_view rfl rfl rfl))

theorem fixGeneration_works (s : State) : Works s s.fixGeneration := by
  have kept : ∀ z, Works s { s with zoning := z, aux := s.aux.map fun a => { a with kept := none } } := fun z => by
    refine .of_view (congrArg (fun f => { view s with held := f }) (funext fun sl => ?_)) rfl rfl
    show SlotAux.held (look (s.aux.map fun a => { a with kept := none }) sl) = (look s.aux sl).held
    rw [look_map]
  exact .ite (fun _ => (Works.foldl (fun t sl => .ite (fun _ => (queuePush_serves sl t).toWorks)
    fun _ => .refl t) _ _).after (kept _)) fun _ => .refl s

end Sys2Proof.Power
end

section
/-! The inventory (chapter 1): handshakes, identities, presence and polls keep the laws of settings, cooling, power
and shutdown. -/

namespace Sys2Proof.Power
open Sys2Proof Sys2Proof.Machine

variable {s t u : State}

/-! ## Changes that the law of cooling may notice -/

/-- What `Keeps` says but for the law of cooling, of which duties and demands within 100 are left: enough for a
raise in both zones to make that law true again (R60). -/
structure Stirs (s t : State) : Prop where
  settings : s.SettingsLaw → t.SettingsLaw
  bounded : s.SettingsLaw → Bounded (view s) → Bounded (view t)
  ledger : s.LedgerLaw → t.LedgerLaw
  orders : ∀ sl, Ordered s sl → Ordered t sl

theorem Cools.power (h : Cools s t) : (view t).power = (view s).power := by
  have phase : t.dev.phase = s.dev.phase := read_lasting (·.dev.phase) h.lasting
  have state : (view t).state = (view s).state := funext h.state
  have held : (view t).held = (view s).held := funext (held_of_lasting h.lasting)
  simp only [View.power]
  rw [state, held]
  exact congrArg₂ (fun p l => { (view s).power with phase := p, charged := l.charged, shedSet := l.shedSet }) phase
    h.ledger

/-- The law of the ledger where what it reads is unchanged. -/
theorem ledgerLaw_of_power (hp : (view t).power = (view s).power) (hl : t.ledger = s.ledger) (h : s.LedgerLaw) :
    t.LedgerLaw := by
  rw [ledgerLaw_iff] at h ⊢
  have phase : t.dev.phase = s.dev.phase := congrArg View.phase hp
  exact ⟨h.1.of_power hp, hl ▸ h.2.1, by simpa only [Covered, phase, hl] using h.2.2⟩

theorem ordered_of_view {sl : Slot} (hs : (view t).state sl = (view s).state sl)
    (hz : ∀ z, ((view t).zone z).1 = ((view s).zone z).1) (ha : ∀ x ∈ s.agenda, x ≠ .headroom → x ∈ t.agenda)
    (h : Ordered s sl) : Ordered t sl :=
  fun hh => ha _ (h ⟨(congrArg Drawing hs).mp hh.1, (hz _).symm.trans hh.2⟩) (by simp)

theorem Cools.stirs (h : Cools s t) : Stirs s t where
  settings := settingsLaw_of_lasting h.lasting
  bounded hs := h.bounded (settingsLaw_trayMin hs)
  ledger := ledgerLaw_of_power h.power h.ledger
  orders := h.orders

theorem Cools.keeps (h : Cools s t) : Keeps s t where
  settings := h.stirs.settings
  cooling hs := h.coolingLaw (settingsLaw_trayMin hs)
  ledger := h.stirs.ledger
  orders := h.orders

/-- A raise in both zones after such work (R60). -/
theorem Stirs.raiseBoth (h : Stirs s t) : Keeps s t.raiseBoth where
  settings hs := (raiseBoth_cools t).stirs.settings (h.settings hs)
  cooling hs hc :=
    raiseBoth_coolingLaw (settingsLaw_trayMin (h.settings hs)) (h.bounded hs ((coolingLaw_iff s).1 hc).1)
  ledger hl := (raiseBoth_cools t).stirs.ledger (h.ledger hl)
  orders sl ho := (raiseBoth_cools t).orders sl (h.orders sl ho)

theorem Stirs.keeps (h : Stirs s t) (hc : s.SettingsLaw → s.CoolingLaw → t.CoolingLaw) : Keeps s t :=
  ⟨h.settings, hc, h.ledger, h.orders⟩

/-- Trays, latches and demands within 100 replaced: the law of cooling alone may notice. -/
theorem Stirs.of_air {l : Vector Latches 3} {f : Tray → TrayState × Nat} {g : AirZone → TempState × Nat}
    (hv : view t = { view s with latches := l, tray := f, zone := g }) (hl : t.ledger = s.ledger)
    (ha : t.agenda = s.agenda) (hg : ∀ z, (g z).1 = (s.zoneAt z).temp)
    (hb : s.SettingsLaw → Bounded (view s) → Bounded (view t)) : Stirs s t where
  settings := settingsLaw_congr (congrArg View.settings hv) (congrArg View.config hv) (congrArg View.write hv)
  bounded := hb
  ledger := ledgerLaw_of_power (by rw [hv]; rfl) hl
  orders sl := ordered_of_view (by rw [hv]) (fun z => by rw [hv]; exact hg z) fun x hx _ => ha ▸ hx

/-! ## States taken (R19, R21) -/

theorem setCpState_works (p : Cp) (st : CpState) (c : Cause) (s : State) : Works s (s.setCpState p st c) :=
  (setCp_works ..).trans (cpEvent_reports ..).works

theorem setBayEntry_works (b : Bay) (e : BayEntry) (c : Cause) (s : State) : Works s (s.setBayEntry b e c) :=
  .ite (fun _ => setBay_works ..) fun _ => ((setBay_works ..).trans
    ((report_reports ..).trans (handBayConditions_reports ..)).works).trans (recomputeNow_serves _).toWorks

/-- A tray takes a state; one that becomes not cooling raises both zones (R21, R60). -/
theorem setTrayState_keeps (tr : Tray) (st : TrayState) (c : Cause) (s : State) : Keeps s (s.setTrayState tr st c) := by
  have told : Reports { s with trays := put s.trays tr { s.trayAt tr with state := st, cause := some c } }
      (((s.setTray tr { s.trayAt tr with state := st, cause := some c }).report .trayState (u16 (tr.val + 1))
        (TrayState.code st) (Cause.code c)).handTrayCondition tr) :=
    ((setTray_reports ..).trans (report_reports ..)).trans (handTrayCondition_reports ..)
  generalize hu : ((s.setTray tr { s.trayAt tr with state := st, cause := some c }).report .trayState
    (u16 (tr.val + 1)) (TrayState.code st) (Cause.code c)).handTrayCondition tr = u at told
  have trays : ∀ k, u.trayAt k = if k = tr then { s.trayAt tr with state := st, cause := some c } else s.trayAt k :=
    fun k => (told.read (·.trayAt k)).trans (trayAt_put ..)
  have duty : ∀ k, (u.trayAt k).duty = (s.trayAt k).duty := fun k => by
    rw [trays]
    split
    · next e => rw [e]
    · rfl
  have hv : view u = { view s with tray := fun k => ((u.trayAt k).state, (u.trayAt k).duty) } := by
    refine (told.read view).trans (congrArg (fun f => { view s with tray := f }) (funext fun k => ?_))
    rw [trays, ← trayAt_put]
  have stirs : Stirs s u := .of_air hv (told.read (·.ledger)) (told.read (·.agenda)) (fun _ => rfl)
    fun _ hb => ⟨fun k => (duty k).trans_le (hb.1 k), fun z =>
      (congrArg (fun v => (v.zone z).2) hv).trans_le (hb.2 z)⟩
  unfold State.setTrayState
  dsimp only
  rw [hu]
  refine .ite (fun _ => .refl s) fun _ => .ite (fun _ => stirs.raiseBoth) fun hn => stirs.keeps fun hs hc => ?_
  rw [coolingLaw_iff] at hc ⊢
  obtain ⟨bounded, least, full⟩ := hc
  have forced : Forced (view u) → Forced (view s) := by
    rintro (h | ⟨k, h⟩)
    · exact .inl ((congrArg (fun v => v.latches.toList.any (·.override)) hv).symm.trans h)
    · refine .inr ?_
      have h : TrayState.notCooling (u.trayAt k).state = true := h
      rw [trays] at h
      split at h
      · exact ⟨tr, by simp [h] at hn; exact hn⟩
      · exact ⟨k, h⟩
  have settings : u.settings = s.settings := congrArg View.settings hv
  exact ⟨stirs.bounded hs bounded, fun k => by rw [settings, duty]; exact least k,
    fun hf k => (duty k).trans (full (forced hf) k)⟩

/-! ## Handshakes and identities (R6, R11, R23) -/

theorem startHandshake_works (pos : Position) (s : State) : Works s (s.startHandshake pos) :=
  (enqueue_serves ..).toWorks.after (setCtl_works ..)

theorem setPollTimer_works (pos : Position) (x : Option Nat) (s : State) : Works s (s.setPollTimer pos x) :=
  setCtl_works ..

theorem not_drawing_qualifying : ¬Drawing .qualifying := by simp [Drawing]

/-- A position whose slot draws no power enters QUALIFYING. -/
theorem enterQualifying_keeps {pos : Position} (c : Cause) (h : ∀ sl, pos = .slot sl → ¬Drawing (s.slotAt sl).state) :
    Keeps s (s.enterQualifying pos c) := by
  cases pos with
  | slot sl => exact (setSlotState_keeps c (fun _ => h sl rfl) not_drawing_qualifying (by decide)
      fun _ => .inr (.inr rfl)).trans (startHandshake_works ..).keeps
  | cp p => exact ((setCpState_works ..).trans (startHandshake_works ..)).keeps
  | bay b => exact ((setBayEntry_works ..).trans (startHandshake_works ..)).keeps
  | tray tr => exact (setTrayState_keeps ..).trans (startHandshake_works ..).keeps

/-- A held record dropped: one candidate fewer. -/
def View.drop (sl : Slot) (v : View) : View := { v with held := fun k => if k = sl then none else v.held k }

theorem Matched.drop {v : View} (h : Matched v) (sl : Slot) : Matched (v.drop sl) where
  charged := h.charged
  shedSet := h.shedSet
  held k hk := h.held k (Ne.symm (ne_of_apply_ne (fun x => if k = sl then none else x) (by simpa [View.drop] using hk.symm)))

theorem setAux_moves {sl : Slot} {a : SlotAux} (h : a.held = none) (s : State) :
    Moves s (s.setAux sl a) ((view s).drop sl) where
  view := by
    refine congrArg (fun f => { view s with held := f }) (funext fun k => ?_)
    show (State.auxAt { s with aux := put s.aux sl a } k).held = if k = sl then none else (s.auxAt k).held
    rw [auxAt_put]
    split
    · exact h
    · rfl
  orders _ hx _ := hx
  timers := id

theorem dropHeld_keeps (sl : Slot) (s : State) : Keeps s (s.dropHeld sl) where
  settings := id
  cooling _ := id
  ledger hl := (setAux_moves rfl s).ledgerLaw hl (fun hm => hm.drop sl) ((ledgerLaw_iff s).1 hl).2.2
  orders _ := id

theorem dropHeld_held (sl : Slot) (s : State) : ((s.dropHeld sl).auxAt sl).held = none := by
  show (State.auxAt { s with aux := put s.aux sl _ } sl).held = none
  rw [auxAt_put, if_pos rfl]

theorem rowsOfIdentity_works (sl : Slot) (s : State) : Works s (s.rowsOfIdentity sl) := by
  unfold State.rowsOfIdentity
  split
  · exact rowsQualify_works ..
  · exact .refl s

theorem not_drawing_faulted : ¬Drawing .faulted := by simp [Drawing]
theorem not_drawing_rejected : ¬Drawing .rejected := by simp [Drawing]
theorem not_drawing_off : ¬Drawing .off := by simp [Drawing]

theorem dropHeld_enter_keeps {sl : Slot} {st : SlotState} (c : Cause) (hn : ¬Drawing st) (hs : st ≠ .shed)
    (h : s.LedgerLaw → ¬Drawing (s.slotAt sl).state) : Keeps s ((s.dropHeld sl).setSlotState sl st c) := by
  have drop := dropHeld_keeps sl s
  have enter := setSlotState_moves sl st c (s.dropHeld sl)
  exact ⟨fun k => enter.settingsLaw (drop.settings k), fun k hc => enter.coolingLaw (drop.cooling k hc),
    fun hl => (setSlotState_keeps (s := s.dropHeld sl) c (fun _ => h hl) hn hs
      fun _ => .inl (dropHeld_held sl s)).ledger (drop.ledger hl),
    fun k ho => enter.ordered (.inr hn) (drop.orders k ho)⟩

/-- A candidate is released to FAULTED (R23). -/
theorem releaseCandidate_keeps {sl : Slot} (c : Cause) (h : s.LedgerLaw → ¬Drawing (s.slotAt sl).state) :
    Keeps s (s.releaseCandidate sl c) := by
  have rows := (dropHeld_enter_keeps c not_drawing_faulted (by decide) h).trans (rowsOfIdentity_works sl _).keeps
  exact .ite (fun _ => rows) fun _ => rows.trans (queuePoll_serves ..).keeps

theorem rejectBlade_keeps {sl : Slot} (c : Cause) (h : ¬Drawing (s.slotAt sl).state) : Keeps s (s.rejectBlade sl c) :=
  dropHeld_enter_keeps c not_drawing_rejected (by decide) fun _ => h

/-- Auto-power admits a slot that is OFF (R11). -/
theorem autoPower_keeps {sl : Slot} (h : (s.slotAt sl).state = .off) : Keeps s (s.autoPower sl) :=
  .ite (fun _ => .refl s) fun _ => .ite (fun _ => powerUp_keeps _ fun hl =>
    held_eq_none hl (by rw [h]; decide) (by rw [h]; decide)) fun _ => .refl s

theorem Works.slotState (h : Works s t) (sl : Slot) : (t.slotAt sl).state = (s.slotAt sl).state :=
  congrArg (fun v => v.state sl) h.view

/-- A slot that is no candidate enters OFF from qualification (R11). -/
theorem qualifyBlade_keeps {sl : Slot} (i : BladeIdentity) (hd : ¬Drawing (s.slotAt sl).state)
    (hh : (s.auxAt sl).held = none) : Keeps s (s.qualifyBlade sl i) := by
  have named : Works s (s.setSlot sl { s.slotAt sl with identity := some i }) := setSlot_works rfl
  have enter := setSlotState_moves sl .off .qualified (s.setSlot sl { s.slotAt sl with identity := some i })
  have held : ((s.setSlot sl { s.slotAt sl with identity := some i }).auxAt sl).held = none :=
    (congrArg (fun v => v.held sl) named.view).trans hh
  have off := setSlotState_keeps .qualified (fun _ => (named.slotState sl).symm ▸ hd) not_drawing_off (by decide)
    fun _ => .inl held
  have rest := ((queuePoll_serves (.slot sl) ((s.setSlot sl { s.slotAt sl with
    identity := some i }).setSlotState sl .off .qualified)).toWorks.trans (rowsQualify_works sl i _)).trans
      (restoreParked_works sl i _)
  exact ((named.keeps.trans off).trans rest.keeps).trans
    (autoPower_keeps ((rest.slotState sl).trans ((enter.state sl).trans (if_pos rfl))))

theorem bladeIdentity_keeps {sl : Slot} (r : IdentityReply) (hd : ¬Drawing (s.slotAt sl).state) :
    Keeps s (s.bladeIdentity sl r) := by
  unfold State.bladeIdentity
  split
  · exact rejectBlade_keeps _ hd
  · exact rejectBlade_keeps _ hd
  · next i _ =>
    split
    · next h hh =>
      split
      · have named : Works s (s.setSlot sl { s.slotAt sl with identity := some i }) := setSlot_works rfl
        have matched : Works _ ((s.setSlot sl { s.slotAt sl with identity := some i }).setAux sl
          { s.auxAt sl with matched := true }) := setAux_works (congrArg (fun v => v.held sl) named.view).symm
        exact ((named.trans matched).trans (queuePoll_serves ..).toWorks).keeps
      · exact (dropHeld_keeps sl s).trans (qualifyBlade_keeps i hd (dropHeld_held sl s))
    · next hh => exact qualifyBlade_keeps i hd hh

theorem cpIdentity_works (p : Cp) (r : IdentityReply) (s : State) : Works s (s.cpIdentity p r) := by
  unfold State.cpIdentity
  split
  · exact setCpState_works ..
  · exact setCpState_works ..
  · exact ((queuePoll_serves ..).trans (recomputeNow_serves _)).toWorks.after
      ((setCpState_works ..).after (setCp_works ..))

theorem bayIdentity_works (b : Bay) (r : IdentityReply) (s : State) : Works s (s.bayIdentity b r) := by
  unfold State.bayIdentity
  split
  · exact setBayEntry_works ..
  · exact setBayEntry_works ..
  · exact (queuePoll_serves ..).toWorks.after (setBay_works ..)

theorem trayIdentity_keeps (tr : Tray) (r : IdentityReply) (s : State) : Keeps s (s.trayIdentity tr r) := by
  unfold State.trayIdentity
  split
  · exact setTrayState_keeps ..
  · exact setTrayState_keeps ..
  · next i _ =>
    have named : Works s (s.setTray tr { s.trayAt tr with identity := some i, failed := fill 3 false }) :=
      setTray_works rfl rfl
    exact ((queuePoll_serves ..).trans (recomputeNow_serves _)).keeps.after
      ((setTrayState_keeps ..).after (named.trans (setTrayAux_works ..)).keeps)

theorem reading_slot {sl : Slot} (h : s.reading (.slot sl) = true) : (s.slotAt sl).state = .qualifying := by
  simp only [State.reading, Bool.and_eq_true, decide_eq_true_eq] at h
  exact h.1

theorem identityTaken_keeps (pos : Position) (r : IdentityReply) (s : State) : Keeps s (s.identityTaken pos r) := by
  refine .ite (fun h => ?_) fun _ => .refl s
  cases pos with
  | slot sl => exact bladeIdentity_keeps r (reading_slot h ▸ not_drawing_qualifying)
  | cp p => exact (cpIdentity_works ..).keeps
  | bay b => exact (bayIdentity_works ..).keeps
  | tray tr => exact trayIdentity_keeps ..

theorem rejectTimeout_keeps {pos : Position} (h : ∀ sl, pos = .slot sl → (s.slotAt sl).state = .qualifying) :
    Keeps s (s.rejectTimeout pos) := by
  cases pos with
  | slot sl =>
    have hd : ¬Drawing (s.slotAt sl).state := h sl rfl ▸ not_drawing_qualifying
    refine .ite (fun _ => releaseCandidate_keeps _ fun _ => hd) fun hn =>
      setSlotState_keeps _ (fun _ => hd) not_drawing_rejected (by decide) fun _ => .inl (by simpa using hn)
  | cp p => exact (setCpState_works ..).keeps
  | bay b => exact (setBayEntry_works ..).keeps
  | tray tr => exact setTrayState_keeps ..

theorem identityLost_keeps (pos : Position) (s : State) : Keeps s (s.identityLost pos) := by
  refine .ite (fun h => ?_) fun _ => .refl s
  have counted : Works s (s.setCtl pos { s.ctlAt pos with attempts := (s.ctlAt pos).attempts + 1 }) := setCtl_works ..
  refine .ite (fun _ => (counted.trans (enqueue_serves ..).toWorks).keeps) fun _ =>
    counted.keeps.trans (rejectTimeout_keeps fun sl e => ?_)
  subst e
  exact reading_slot h

/-! ## Adoption (R23) -/

/-- A slot joins the charged slots. -/
def View.charge (sl : Slot) (v : View) : View := { v with charged := put v.charged sl true }

theorem charge_moves (sl : Slot) (s : State) : Moves s (s.charge sl) ((view s).charge sl) :=
  ⟨rfl, fun _ hx _ => hx, id⟩

/-- An adopted slot's state, charge and candidacy. -/
theorem adoptEntry_moves {sl : Slot} {a : SlotAux} (h : a.held = none) (s : State) :
    Moves s (((s.setSlotState sl .powered .adopted).charge sl).setAux sl a)
      ((((view s).drop sl).charge sl).enter sl .powered) := by
  have enter := setSlotState_moves sl .powered .adopted s
  have charge := charge_moves sl (s.setSlotState sl .powered .adopted)
  have drop := setAux_moves (sl := sl) h ((s.setSlotState sl .powered .adopted).charge sl)
  rw [charge.view, enter.view] at drop
  exact (enter.trans charge).trans drop

/-- A candidate is adopted in STARTING: its slot takes power and is a candidate no more. -/
theorem adopt_keeps {sl : Slot} {x : HeldBlade} (gen : Option Word) (hh : (s.auxAt sl).held = some x) :
    Keeps s (s.adopt sl x gen) := by
  have entry := adoptEntry_moves (sl := sl) (a := { ((s.setSlotState sl .powered .adopted).charge sl).auxAt sl with
    held := none, matched := false, enabled := x.enabled }) rfl s
  have e : s.adopt sl x gen = State.shutdownEntry sl (State.coolingJoin sl (State.enforceAdopted sl gen
    (State.adoptRows sl x.enabled (State.rowsOfIdentity sl (((s.setSlotState sl .powered .adopted).charge sl).setAux sl
      { ((s.setSlotState sl .powered .adopted).charge sl).auxAt sl with
        held := none, matched := false, enabled := x.enabled }))))) := rfl
  rw [e]
  generalize ((s.setSlotState sl .powered .adopted).charge sl).setAux sl _ = t at entry ⊢
  have told : Keeps t (State.coolingJoin sl (State.enforceAdopted sl gen
      (State.adoptRows sl x.enabled (State.rowsOfIdentity sl t)))) :=
    (((rowsOfIdentity_works sl t).trans (adoptRows_works sl x.enabled _)).trans
      (enforceAdopted_serves sl gen _).toWorks).keeps.trans (coolingJoin_coolsAt sl _).keeps
  have hot := shutdownEntry_works sl (State.coolingJoin sl (State.enforceAdopted sl gen
      (State.adoptRows sl x.enabled (State.rowsOfIdentity sl t))))
  have rest := told.trans hot.keeps
  have hv := entry.view
  have settings : s.SettingsLaw → t.SettingsLaw :=
    settingsLaw_congr (congrArg View.settings hv) (congrArg View.config hv) (congrArg View.write hv)
  refine ⟨fun hs => rest.settings (settings hs), fun hs hc => rest.cooling (settings hs) ?_,
    fun hl => rest.ledger ?_, fun k ho => ?_⟩
  · exact coolingLaw_congr (s := s) ((congrArg View.tray hv).trans rfl) ((congrArg View.zone hv).trans rfl)
      ((congrArg View.latches hv).trans rfl)
      (congrArg View.settings hv) hc
  · obtain ⟨matched, -, -⟩ := (ledgerLaw_iff s).1 hl
    have starting : t.dev.phase = .starting :=
      (congrArg View.phase hv).trans (matched.held sl (by simpa [view] using hh ▸ nofun)).1
    exact entry.ledgerLaw hl (fun hm => (hm.drop sl).charge (.inr rfl) (if_pos rfl))
      fun hr => absurd (starting.symm.trans hr) nofun
  · by_cases e : k = sl
    · subst e
      exact shutdownEntry_ordered k _
    · refine rest.orders k (ordered_of_view ((congrArg (fun v => v.state k) hv).trans (if_neg e))
        (fun z => congrArg (fun v => (v.zone z).1) hv) entry.orders ho)

/-! ## Presence (R4, R17 to R21) -/

theorem not_drawing_empty : ¬Drawing .empty := by simp [Drawing]

/-- What R17 does at a slot between the removal of its power and the notice to the ledger. -/
theorem clearSlot_works (sl : Slot) (s : State) : Works s
    (let t := s.withdrawAll (.slot sl)
     let t := t.setSlot sl { t.slotAt sl with unresponsive := false, poll := none, missed := 0 }
     let t := (t.rowsLost sl).parkUnits sl
     let t := t.setSlot sl { t.slotAt sl with identity := none }
     t.condition (slotFault sl) false) := by
  have unpolled : ∀ t : State, Works t (t.setSlot sl { t.slotAt sl with
      unresponsive := false, poll := none, missed := 0 }) := fun t => setSlot_works rfl
  have unnamed : ∀ t : State, Works t (t.setSlot sl { t.slotAt sl with identity := none }) :=
    fun t => setSlot_works rfl
  have rows := (((withdrawAll_serves (.slot sl) s).toWorks.trans (unpolled _)).trans (rowsLost_works sl _)).trans
    (parkUnits_works sl _)
  exact (rows.trans (unnamed _)).trans (condition_reports ..).works

theorem slotLost_keeps (sl : Slot) (s : State) : Keeps s (s.slotLost sl) := by
  have enter := enterSlotState_moves sl .empty .absence s
  unfold State.slotLost
  dsimp only
  by_cases hd : Drawing (s.slotAt sl).state
  · have powered : (decide ((s.slotAt sl).state = .powering) || decide ((s.slotAt sl).state = .powered)) = true := by
      simpa [Drawing] using hd
    rw [if_pos powered, if_pos powered]
    exact removal_keeps hd not_drawing_empty enter (clearSlot_works sl _)
  · have powered : ¬(decide ((s.slotAt sl).state = .powering) || decide ((s.slotAt sl).state = .powered)) = true := by
      simpa [Drawing] using hd
    rw [if_neg powered, if_neg powered]
    exact ((enter.keeps (enterSlotState_covered sl .empty .absence) (fun _ => hd) not_drawing_empty (by decide)
      fun _ => .inr (.inl rfl)).trans (dropHeld_keeps sl _)).trans (clearSlot_works sl _).keeps

theorem cpLost_keeps (p : Cp) (s : State) : Keeps s (s.cpLost p) := by
  have lost := (withdrawAll_serves (.cp p) s).toWorks.trans (setCpState_works p .empty .absence _)
  exact (condition_reports ..).works.keeps.after ((coolingLeaveCp_cools p _).keeps.after
    ((recomputeNow_serves _).toWorks.after ((setCp_works ..).after lost)).keeps)

theorem bayLost_works (b : Bay) (s : State) : Works s (s.bayLost b) :=
  (setBayEntry_works ..).after (withdrawAll_serves ..).toWorks

theorem setRotor_works (tr : Tray) (k : Fin 3) (v : Bool) (speed : Nat) (s : State) :
    Works s (s.setRotor tr k v speed) :=
  .ite (fun _ => .refl s) fun _ => ((report_reports ..).trans (condition_reports ..)).works.after
    (setTray_works rfl rfl)

theorem trayLost_keeps (tr : Tray) (s : State) : Keeps s (s.trayLost tr) := by
  have lost := (withdrawAll_serves (.tray tr) s).keeps.trans (setTrayState_keeps tr .absent .absence _)
  have rotors := lost.trans (Works.foldl (fun t k => setRotor_works tr k false 0 t) (allFin 3) _).keeps
  have unnamed : ∀ t : State, Works t (t.setTray tr { t.trayAt tr with
      cause := some .absence, identity := none, speeds := none }) := fun t => setTray_works rfl rfl
  exact ((rotors.trans (unnamed _).keeps).trans (setTrayAux_works ..).keeps).trans (recomputeNow_serves _).keeps

theorem vacant_slot {sl : Slot} (h : s.vacant (.slot sl) = true) : (s.slotAt sl).state = .empty := by
  simpa [State.vacant] using h

theorem presenceTaken_keeps (pos : Position) (s : State) : Keeps s (s.presenceTaken pos) := by
  refine .ite (fun h => ?_) fun _ => .refl s
  have enter : Keeps s (s.enterQualifying pos .presence) := enterQualifying_keeps _ fun sl e => by
    subst e
    exact vacant_slot h ▸ not_drawing_empty
  cases pos with
  | tray tr => exact enter.trans (recomputeNow_serves _).keeps
  | slot sl => exact enter
  | cp p => exact enter
  | bay b => exact enter

theorem presenceLost_keeps (pos : Position) (s : State) : Keeps s (s.presenceLost pos) := by
  have stopped := (setPollTimer_works pos none s).keeps
  cases pos with
  | slot sl => exact stopped.trans (slotLost_keeps ..)
  | cp p => exact stopped.trans (cpLost_keeps ..)
  | bay b => exact stopped.trans (bayLost_works ..).keeps
  | tray tr => exact stopped.trans (trayLost_keeps ..)

theorem absentTaken_keeps (pos : Position) (s : State) : Keeps s (s.absentTaken pos) := by
  cases pos with
  | slot sl => exact .ite (fun _ => dropHeld_keeps ..) fun _ => .refl s
  | cp p => exact .refl s
  | bay b => exact .refl s
  | tray tr => exact (handTrayCondition_reports ..).works.keeps

theorem takePresence_keeps (pos : Position) (v : Bool) (s : State) : Keeps s (s.takePresence pos v) := by
  have taken := (setCtl_works pos { s.ctlAt pos with taken := v, debounce := none, judged := true } s).keeps
  unfold State.takePresence
  dsimp only
  split
  · exact taken.trans (presenceTaken_keeps ..)
  · exact taken.trans (presenceLost_keeps ..)
  · exact taken.trans (absentTaken_keeps ..)
  · exact taken

/-! ## Polls (R8 to R10, R14, R15, R19 to R21, R23) -/

theorem pollEnded_works (pos : Position) (s : State) : Works s (s.pollEnded pos) :=
  .ite (fun _ => setPollTimer_works ..) fun _ => .refl s

theorem recordBlade_works (sl : Slot) (r : BladePoll) (s : State) : Works s (s.recordBlade sl r) := by
  have kept : Works s (s.setSlot sl { s.slotAt sl with poll := some r, missed := 0, unresponsive := false }) :=
    setSlot_works rfl
  exact .ite (fun _ => (Works.ite (fun _ => .refl _) fun _ => (condition_reports ..).works).after
    ((slotEvent_reports ..).works.after kept)) fun _ => kept

theorem candidateReply_keeps {sl : Slot} (r : BladePoll) (h : (s.slotAt sl).state = .qualifying) :
    Keeps s (s.candidateReply sl r) := by
  unfold State.candidateReply
  split
  · next x hx =>
    exact .ite (fun _ => releaseCandidate_keeps _ fun _ => h ▸ not_drawing_qualifying) fun _ =>
      .ite (fun _ => adopt_keeps _ hx) fun _ => .refl s
  · exact .refl s

theorem bladeReply_keeps (sl : Slot) (raw : BladePoll) (s : State) : Keeps s (s.bladeReply sl raw) := by
  have kept := recordBlade_works sl (acceptBlade raw) s
  have faulted : ∀ c, Keeps s ((s.recordBlade sl (acceptBlade raw)).leavePower sl .faulted c) := fun c =>
    kept.keeps.trans (leavePower_keeps sl not_drawing_faulted c _)
  unfold State.bladeReply
  dsimp only
  split
  · next h => exact kept.keeps.trans (candidateReply_keeps _ ((kept.slotState sl).trans h))
  · next h =>
    exact .ite (fun _ => faulted _) fun _ =>
      .ite (fun _ => kept.keeps.trans (enterPowered_keeps ((kept.slotState sl).trans h))) fun _ => kept.keeps
  · exact .ite (fun _ => faulted _) fun _ =>
      .ite (fun _ => (kept.keeps.trans (compareHeld_serves ..).keeps).trans (coolingUpdate_cools ..).keeps)
        fun _ => faulted _
  · exact kept.keeps

theorem cpReply_keeps (p : Cp) (x : Option Int) (s : State) : Keeps s (s.cpReply p x) := by
  have kept : Works s (s.setCp p { s.cpAt p with poll := some (sensorOf x), missed := 0, unresponsive := false }) :=
    setCp_works ..
  exact (coolingJoinCp_cools ..).keeps.after ((Works.ite (fun _ =>
    ((cpEvent_reports ..).trans (condition_reports ..)).works) fun _ => .refl _).after kept).keeps

theorem bayReply_works (b : Bay) (r : SupplyPoll) (s : State) : Works s (s.bayReply b r) :=
  .ite (fun _ => (recomputeNow_serves _).toWorks.after (setBayEntry_works ..)) fun _ => setBayEntry_works ..

theorem judgeRotor_works (tr : Tray) (duty maxSpeed : Nat) (k : Fin 3) (speed : Nat) (s : State) :
    Works s (s.judgeRotor tr duty maxSpeed k speed) :=
  .ite (fun _ => .ite (fun _ => (setRotor_works ..).after (setTrayAux_works ..)) fun _ => setTrayAux_works ..)
    fun _ => .ite (fun _ => (setRotor_works ..).after (setTrayAux_works ..)) fun _ => setTrayAux_works ..

theorem judgeRotors_works (tr : Tray) (duty maxSpeed : Nat) (speeds : Vector Nat 3) (s : State) :
    Works s ((allFin 3).foldl (fun u k => u.judgeRotor tr duty maxSpeed k (look speeds k)) s) :=
  .foldl (fun _ _ => judgeRotor_works ..) _ s

theorem trayReply_keeps (tr : Tray) (speeds : Vector Nat 3) (s : State) : Keeps s (s.trayReply tr speeds) := by
  have kept : Works s (s.setTray tr { s.trayAt tr with speeds := some speeds }) := setTray_works rfl rfl
  exact (setTrayState_keeps ..).after ((Keeps.ite (fun _ => (raise_coolsAt ..).toCools.keeps) fun _ => .refl _).after
    ((judgeRotors_works ..).after ((setTrayAux_works ..).after kept)).keeps)

theorem takePoll_keeps {pos : Position} {r : PollReply} (h : takePoll pos r s = some t) : Keeps s t := by
  unfold takePoll at h
  split at h
  · cases h; exact bladeReply_keeps ..
  · cases h; exact cpReply_keeps ..
  · split at h
    · cases h; exact (bayReply_works ..).keeps
    · cases h
  · cases h; exact trayReply_keeps ..
  · cases h

theorem pollLost_keeps (pos : Position) (s : State) : Keeps s (s.pollLost pos) := by
  cases pos with
  | slot sl =>
    have counted : Works s (s.setSlot sl { s.slotAt sl with
        missed := raiseMissed (s.slotAt sl).missed
        unresponsive := (s.slotAt sl).unresponsive || 3 ≤ raiseMissed (s.slotAt sl).missed }) := setSlot_works rfl
    exact .ite (fun _ => (coolingUpdate_cools ..).keeps.after ((Works.ite (fun _ => .refl _) fun _ =>
      (condition_reports ..).works).after ((slotEvent_reports ..).works.after counted)).keeps) fun _ => counted.keeps
  | cp p =>
    exact .ite (fun _ => (coolingUpdateCp_cools ..).keeps.after (((cpEvent_reports ..).trans
      (condition_reports ..)).works.after (setCp_works ..)).keeps) fun _ => (setCp_works ..).keeps
  | bay b => exact (setBayEntry_works ..).keeps
  | tray tr =>
    exact .ite (fun _ => (setTrayState_keeps ..).after (setTrayAux_works ..).keeps) fun _ =>
      (setTrayAux_works ..).keeps

end Sys2Proof.Power
end

section
/-! Settings: the requests that change them, and the updates of the zones, keep the laws of settings, cooling, power
and shutdown (R34 to R38, R56 to R59, R66 to R68, R86, R151). -/

namespace Sys2Proof.Power
open Sys2Proof Sys2Proof.Machine

variable {s t u : State}

/-! ## Requests -/

theorem Laws.trans_works (h : Works s t) (k : Laws t u) (ha : t.agenda = s.agenda) : Laws s u where
  settings hs := k.settings (h.keeps.settings hs)
  cooling hs hc := k.cooling (h.keeps.settings hs) (h.keeps.cooling hs hc)
  ledger hl := k.ledger (h.keeps.ledger hl)
  shutdown hq hs := k.shutdown (ha.trans hq) ((shutdownLaw_iff t).2 fun sl hh =>
    (shutdownLaw_iff s).1 hs sl ((hot_of_view h.view sl).1 hh))

/-- Work that hands no order on leaves no slot hot. -/
theorem Keeps.laws (h : Keeps s t) (ha : t.agenda = s.agenda) : Laws s t where
  settings := h.settings
  cooling := h.cooling
  ledger := h.ledger
  shutdown hq hs := (shutdownLaw_iff t).2 fun sl hh => by
    have order := h.orders sl (fun k => absurd k ((shutdownLaw_iff s).1 hs sl)) hh
    rw [ha, hq] at order
    exact absurd order List.not_mem_nil

/-- A request is answered by the arbiter, or its block's work is done (R143, R174). -/
theorem request_cases (r : Right) (always : Bool) (h : Header) (f : State → State) (s : State) :
    (∃ st res, s.request r always h f = s.respond h.link h.tag st res) ∨ s.request r always h f = s ∨
      s.request r always h f = f s := by
  unfold State.request
  split
  · split
    · exact .inl ⟨_, _, rfl⟩
    · exact .inr (.inr rfl)
  · exact .inr (.inl rfl)

theorem request_keeps {r : Right} {always : Bool} {h : Header} {f : State → State} (hf : Keeps s (f s)) :
    Keeps s (s.request r always h f) := by
  obtain ⟨st, res, e⟩ | e | e := request_cases r always h f s
  · rw [e]; exact (respond_works ..).keeps
  · rw [e]; exact .refl s
  · rw [e]; exact hf

theorem request_laws {r : Right} {always : Bool} {h : Header} {f : State → State} (hf : Laws s (f s)) :
    Laws s (s.request r always h f) := by
  obtain ⟨st, res, e⟩ | e | e := request_cases r always h f s
  · rw [e]; exact (respond_works ..).laws
  · rw [e]; exact .refl s
  · rw [e]; exact hf

/-! ## Settings within their ranges (R35, R37, R66 to R68, R86, R151) -/

theorem changeSettings_agenda (f : Settings) (s : State) : (s.changeSettings f).agenda = s.agenda := by
  rw [changeSettings_eq]

theorem changeSettings_stirs {f : Settings} (hf : s.settings.Law → f.Law) : Stirs s (s.changeSettings f) := by
  rw [changeSettings_eq]
  exact ⟨fun hs => ⟨hf hs.1, hs.2⟩, fun _ hb => hb, ledgerLaw_of_power rfl rfl, fun _ ho => ho⟩

theorem changeSettings_keeps {f : Settings} (hf : s.settings.Law → f.Law) (hm : f.trayMin ≤ s.settings.trayMin) :
    Keeps s (s.changeSettings f) := by
  refine (changeSettings_stirs hf).keeps fun _ hc => ?_
  rw [coolingLaw_iff, changeSettings_settings] at *
  obtain ⟨bounded, least, full⟩ := hc
  rw [changeSettings_eq]
  exact ⟨bounded, fun tr => hm.trans (least tr), full⟩

theorem changeSettings_laws (f : Settings) (hf : s.settings.Law → f.Law) (hm : f.trayMin ≤ s.settings.trayMin) :
    Laws s (s.changeSettings f) := (changeSettings_keeps hf hm).laws (changeSettings_agenda ..)

theorem respondSetting_works (h : Header) (b : Bool) (r : Results) (s : State) :
    Works s (s.respondSetting h b r) :=
  .ite (fun _ => respond_works ..) fun _ => respond_works ..

theorem clampTemp_range (x : Int) : -80 ≤ clampTemp x ∧ clampTemp x ≤ 250 := by
  unfold clampTemp clampInt
  omega

theorem clampDuty_le (d : Int) : clampDuty d ≤ 100 := by
  unfold clampDuty clampInt
  omega

/-- A curve taken by SET FAN CURVE has its form and ranges (R66). -/
theorem curveOf_law {l : List Breakpoint} {ts : Vector Int 6} {ds : Vector Nat 6} (h : curveOf l = some (ts, ds)) :
    strictlyAscending ts.toList = true ∧ notDecreasing ds.toList = true ∧
      (∀ i, -80 ≤ look ts i ∧ look ts i ≤ 250) ∧ ∀ i, look ds i ≤ 100 := by
  unfold curveOf at h
  split at h
  · dsimp only at h
    split at h
    · next hc =>
      obtain ⟨rfl, rfl⟩ := Prod.mk.inj (Option.some.inj h)
      obtain ⟨ascending, rising⟩ := (Bool.and_eq_true _ _).mp hc
      exact ⟨ascending, rising, fun i => by fin_cases i <;> exact clampTemp_range _,
        fun i => by fin_cases i <;> exact clampDuty_le _⟩
    · cases h
  · cases h

theorem setPolicy_keeps (h : Header) (p : Option Policy) (s : State) : Keeps s (s.setPolicy h p) := by
  unfold State.setPolicy
  split
  · exact (respond_works ..).keeps
  · next p =>
    exact (respond_works ..).keeps.after ((recomputeNow_serves _).keeps.after
      (changeSettings_keeps (f := { s.settings with policy := p }) id (Nat.le_refl _)))

theorem setGraceTime_laws (h : Header) (n : Nat) (s : State) : Laws s (s.setGraceTime h n) :=
  (changeSettings_laws { s.settings with graceTime := min n 60 }
    (fun ⟨_, rest⟩ => ⟨Nat.min_le_right .., rest⟩) (Nat.le_refl _)).works (respondSetting_works ..)

theorem setParkTime_laws (h : Header) (n : Nat) (s : State) : Laws s (s.setParkTime h n) :=
  (changeSettings_laws { s.settings with parkTime := min n 3600 }
    (fun ⟨grace, warn, _, rest⟩ => ⟨grace, warn, Nat.min_le_right .., rest⟩) (Nat.le_refl _)).works
      (respondSetting_works ..)

theorem setLeaseTime_laws (h : Header) (n : Nat) (s : State) : Laws s (s.setLeaseTime h n) := by
  have range : 500 ≤ clampNat 500 30000 n ∧ clampNat 500 30000 n ≤ 30000 := by
    unfold clampNat
    omega
  exact (changeSettings_laws { s.settings with leaseTime := clampNat 500 30000 n }
    (fun ⟨grace, warn, park, _, rest⟩ => ⟨grace, warn, park, range, rest⟩) (Nat.le_refl _)).works
      (respondSetting_works ..)

theorem setHysteresis_laws (h : Header) (v : Int) (s : State) : Laws s (s.setHysteresis h v) := by
  have range : (clampInt 0 20 v).toNat ≤ 20 := by
    unfold clampInt
    omega
  exact (changeSettings_laws { s.settings with hysteresis := (clampInt 0 20 v).toNat }
    (fun ⟨grace, warn, park, lease, _, rest⟩ => ⟨grace, warn, park, lease, range, rest⟩) (Nat.le_refl _)).works
      (respondSetting_works ..)

theorem setPriority_laws (h : Header) (l : List Nat) (s : State) : Laws s (s.setPriority h l) := by
  unfold State.setPriority
  split
  · exact (respond_works ..).laws
  · next p hp =>
    obtain ⟨-, once⟩ := shedPriorityOf_eq_some.1 hp
    exact (changeSettings_laws { s.settings with shedPriority := p }
      (fun ⟨grace, warn, park, lease, hyst, low, _, rest⟩ => ⟨grace, warn, park, lease, hyst, low, once, rest⟩)
      (Nat.le_refl _)).works (respond_works ..)

/-- A warning percent or a report scale: the readouts follow (R25). -/
theorem reDerive_works (s : State) : Works s s.reDerive := by
  have refresh : Works s { s with ledger := refreshed { s.ledger with
      margin := marginOf s.ledger.available s.settings.warnPercent } s.settings.scale } :=
    ⟨rfl, fun _ hx _ => hx, id, id⟩
  exact refresh.trans (derive_reports { s with ledger := { s.ledger with
      margin := marginOf s.ledger.available s.settings.warnPercent } }).works

theorem setWarning_laws (h : Header) (n : Nat) (s : State) : Laws s (s.setWarning h n) :=
  ((changeSettings_laws { s.settings with warnPercent := min n 50 }
    (fun ⟨grace, _, rest⟩ => ⟨grace, Nat.min_le_right .., rest⟩) (Nat.le_refl _)).works (reDerive_works _)).works
      (respondSetting_works ..)

theorem setScale_laws (h : Header) (x : Option Scale) (s : State) : Laws s (s.setScale h x) := by
  unfold State.setScale
  split
  · exact (respond_works ..).laws
  · next x =>
    exact ((changeSettings_laws { s.settings with scale := x } id (Nat.le_refl _)).works (reDerive_works _)).works
      (respond_works ..)

/-- The restore timer started or stopped keeps the timers' law (R38, R47). -/
theorem autoRestoreEffect_works (on : Bool) (s : State) : Works s (s.autoRestoreEffect on) := by
  refine .ite (fun _ => .ite (fun h => ?_) fun _ => .refl s) fun _ =>
    ((stopRestore_books s).trans (endPass_books _)).serves.toWorks
  have started : Books s { s with ledger := { s.ledger with restoreTimer := some s.graceMs } } :=
    .of_ledger rfl (fun ht => ⟨ht.1, fun _ => ⟨h.1, h.2.1⟩⟩) id
  exact started.serves.toWorks

theorem setAutoRestore_laws (h : Header) (on : Option Bool) (s : State) : Laws s (s.setAutoRestore h on) := by
  unfold State.setAutoRestore
  split
  · exact (respond_works ..).laws
  · next v =>
    exact .ite (fun _ => (respond_works ..).laws) fun _ =>
      ((changeSettings_laws { s.settings with autoRestore := v } id (Nat.le_refl _)).works
        (autoRestoreEffect_works ..)).works (respond_works ..)

theorem setCurve_keeps (h : Header) (l : List Breakpoint) (s : State) : Keeps s (s.setCurve h l) := by
  unfold State.setCurve
  split
  · exact (respond_works ..).keeps
  · next ts ds hc =>
    obtain ⟨ascending, rising, temps, duties⟩ := curveOf_law hc
    have taken : Keeps s (s.changeSettings { s.settings with curveTemp := ts, curveDuty := ds }) :=
      changeSettings_keeps (fun ⟨grace, warn, park, lease, hyst, low, once, limits, _⟩ =>
        ⟨grace, warn, park, lease, hyst, low, once, limits, ascending, rising, temps, duties⟩) (Nat.le_refl _)
    exact (taken.trans (deriveSensorless_cools _).keeps).trans (respondSetting_works ..).keeps

theorem setThresholds_keeps (h : Header) (warn crit shutdown : Int) (s : State) :
    Keeps s (s.setThresholds h warn crit shutdown) := by
  refine .ite (fun hc => ?_) fun _ => (respond_works ..).keeps
  have taken : Keeps s (s.changeSettings { s.settings with
      warnAt := clampTemp warn, critAt := clampTemp crit, shutdownAt := clampTemp shutdown }) :=
    changeSettings_keeps (fun ⟨grace, percent, park, lease, hyst, low, once, _, rest⟩ =>
      ⟨grace, percent, park, lease, hyst, low, once,
        ⟨(clampTemp_range _).1, hc.1, hc.2, (clampTemp_range _).2⟩, rest⟩) (Nat.le_refl _)
  exact ((taken.trans (evaluateTemp_coolsAt .zoneL _).toCools.keeps).trans
    (evaluateTemp_coolsAt .zoneR _).toCools.keeps).trans (respondSetting_works ..).keeps

theorem raise_agenda (z : AirZone) (s : State) : (s.raise z).agenda = s.agenda := by
  obtain ⟨target, h⟩ := raise_reports z s
  exact h.read (·.agenda)

theorem raiseBoth_agenda (s : State) : s.raiseBoth.agenda = s.agenda :=
  (raise_agenda ..).trans (raise_agenda ..)

theorem updateZone_agenda (z : AirZone) (s : State) : (s.updateZone z).agenda = s.agenda :=
  (updateZone_reports z s).read (·.agenda)

theorem setMinimum_laws (h : Header) (d : Int) (s : State) : Laws s (s.setMinimum h d) := by
  have range : 20 ≤ (clampInt 20 100 d).toNat ∧ (clampInt 20 100 d).toNat ≤ 100 := by
    unfold clampInt
    omega
  have law : s.settings.Law → Settings.Law { s.settings with trayMin := (clampInt 20 100 d).toNat } :=
    fun ⟨grace, warn, park, lease, hyst, _, rest⟩ => ⟨grace, warn, park, lease, hyst, range, rest⟩
  refine Laws.works (.ite (fun _ => ?_) fun hm => ?_) (respondSetting_works ..)
  · exact (changeSettings_stirs law).raiseBoth.laws ((raiseBoth_agenda _).trans (changeSettings_agenda ..))
  · exact (changeSettings_keeps law (Nat.not_lt.1 hm)).laws (changeSettings_agenda ..)

/-- The update of a zone (R56 to R59). -/
theorem updateZone_keeps (z : AirZone) (s : State) : Keeps s (s.updateZone z) := by
  have hv := updateZone_view z s
  refine ⟨settingsLaw_congr (congrArg View.settings hv) (congrArg View.config hv) (congrArg View.write hv),
    fun hs hc => updateZone_coolingLaw z hs.1 hc, ledgerLaw_of_power (by rw [hv]; rfl)
      ((updateZone_reports z s).read (·.ledger)), fun sl => ordered_of_view (by rw [hv])
        (fun y => by rw [hv]; rfl) fun x hx _ => ?_⟩
  rw [updateZone_agenda]
  exact hx

end Sys2Proof.Power
end

section
/-! Roles, holds, links, queues and cursors keep the laws of settings, cooling, power and shutdown (R142 to R157,
R160 to R178). -/

namespace Sys2Proof.Power
open Sys2Proof Sys2Proof.Machine

variable {s t u : State}

/-! ## Roles (R142 to R152) -/

/-- The arbiter's registers other than the latches. -/
theorem arbiter_works {a : Arbiter} (h : a.latches = s.arbiter.latches) : Works s { s with arbiter := a } :=
  .of_view (congrArg (fun l => { view s with latches := l }) h) rfl rfl

theorem setStanding_works (c : Ctl) (x : Standing) (s : State) : Works s (s.setStanding c x) := arbiter_works rfl

theorem roleEvent_works (c : Ctl) (k : RoleCause) (s : State) : Works s (s.roleEvent c k) :=
  (report_reports ..).works

theorem takeStanding_works (c : Ctl) (x : Standing) (k : RoleCause) (s : State) : Works s (s.takeStanding c x k) :=
  .ite (fun _ => .refl s) fun _ => (setStanding_works ..).trans (roleEvent_works ..)

theorem evalHeadless_works (s : State) : Works s s.evalHeadless :=
  (Works.ite (fun _ => .refl _) fun _ => (condition_reports ..).works).after (arbiter_works rfl)

theorem startLease_works (s : State) : Works s s.startLease := arbiter_works rfl

theorem grantRole_works (c : Ctl) (k : RoleCause) (s : State) : Works s (s.grantRole c k) :=
  (roleEvent_works ..).after ((startLease_works _).after (Works.after (arbiter_works rfl) (setStanding_works c _ s)))

theorem handover_works (c : Ctl) (s : State) : Works s (s.handover c) :=
  .ite (fun _ => grantRole_works ..) fun _ => .refl s

theorem endHolding_works (k : EndCause) (s : State) : Works s (s.endHolding k) := by
  unfold State.endHolding
  split
  · exact .refl s
  · next c _ =>
    have ended : Works s { s with arbiter := { s.arbiter with
        leaseTimer := none, holder := none, epoch := s.arbiter.epoch + 1 } } := arbiter_works rfl
    exact (((handover_works ..).trans (evalHeadless_works _)).after (roleEvent_works ..)).after
      ((Works.ite (fun _ => abortByLoss_works ..) fun _ => .refl _).after ((setStanding_works ..).after ended))

theorem claim_works (c : Ctl) (h : Header) (s : State) : Works s (s.claim c h) := by
  unfold State.claim
  split
  · exact .ite (fun _ => ((grantRole_works ..).trans (evalHeadless_works _)).trans (respond_works ..)) fun _ =>
      respond_works ..
  · exact .ite (fun _ => (startLease_works s).trans (respond_works ..)) fun _ =>
      (takeStanding_works ..).trans (respond_works ..)

theorem asControl_works {h : Header} {f : Ctl → State → State} (hf : ∀ c, Works s (f c s)) :
    Works s (s.asControl h f) := by
  unfold State.asControl
  split
  · exact hf _
  · exact respond_works ..

theorem declare_works (h : Header) (ready : Bool) (c : Ctl) (s : State) : Works s (s.declare h ready c) :=
  .ite (fun _ => respond_works ..) fun _ => (takeStanding_works ..).trans (respond_works ..)

/-! ## Holds (R153, R157) -/

theorem override_iff (s : State) : s.holdEffective .coolingOverride = true ↔
    ∃ i, (look s.arbiter.latches i).override = true := by
  show s.arbiter.latches.toList.any (·.override) = true ↔ _
  rw [List.any_eq_true]
  exact ⟨fun ⟨x, hx, h⟩ => ((mem_toList_iff _ _).1 hx).imp fun _ e => (congrArg Latches.override e).trans h,
    fun ⟨i, h⟩ => ⟨_, (mem_toList_iff _ _).2 ⟨i, rfl⟩, h⟩⟩

/-- A ZONING_FREEZE latch has no part in COOLING_OVERRIDE. -/
theorem override_of_freeze {l : LinkId} {v : Bool}
    (h : (s.setLatches l ((s.latchesOf l).set .zoningFreeze v)).holdEffective .coolingOverride = true) :
    s.holdEffective .coolingOverride = true := by
  rw [override_iff] at h ⊢
  obtain ⟨i, hi⟩ := h
  have hi : (look (put s.arbiter.latches (LinkId.idx l) ((s.latchesOf l).set .zoningFreeze v)) i).override = true := hi
  rw [look_put] at hi
  split at hi
  · exact ⟨LinkId.idx l, hi⟩
  · exact ⟨i, hi⟩

/-- A latch takes a value; COOLING_OVERRIDE that comes into effect raises both zones (R60, R153). -/
theorem setLatch_keeps (l : LinkId) (k : HoldKind) (v : Bool) (s : State) : Keeps s (s.setLatch l k v) := by
  have told := report_reports .holdChange (HoldKind.code k) (LinkId.code l) (u16 ((if v then 1 else 0) +
    if (s.setLatches l (Latches.set (s.latchesOf l) k v)).holdEffective k then 2 else 0))
      (s.setLatches l (Latches.set (s.latchesOf l) k v))
  generalize hu : (s.setLatches l (Latches.set (s.latchesOf l) k v)).report .holdChange (HoldKind.code k)
    (LinkId.code l) (u16 ((if v then 1 else 0) + if (s.setLatches l (Latches.set (s.latchesOf l) k
      v)).holdEffective k then 2 else 0)) = u at told
  have hv : view u = { view s with latches := (s.setLatches l (Latches.set (s.latchesOf l) k v)).arbiter.latches } :=
    told.read view
  have stirs : Stirs s u := .of_air hv (told.read (·.ledger)) (told.read (·.agenda)) (fun _ => rfl)
    fun _ hb => by rw [hv]; exact hb
  unfold State.setLatch
  dsimp only
  rw [hu]
  refine .ite (fun _ => .refl s) fun _ => .ite (fun _ => stirs.raiseBoth) fun hn => stirs.keeps fun hs hc => ?_
  rw [coolingLaw_iff] at hc ⊢
  obtain ⟨bounded, least, full⟩ := hc
  have trays : ∀ tr, u.trayAt tr = s.trayAt tr := fun tr => told.read (·.trayAt tr)
  have settings : u.settings = s.settings := told.read (·.settings)
  have latches : u.arbiter.latches = (s.setLatches l (Latches.set (s.latchesOf l) k v)).arbiter.latches :=
    told.read (·.arbiter.latches)
  have forced : Forced (view u) → Forced (view s) := by
    rintro (h | ⟨tr, h⟩)
    · have now : (s.setLatches l (Latches.set (s.latchesOf l) k v)).holdEffective .coolingOverride = true :=
        (congrArg (fun x => x.toList.any (·.override)) latches).symm.trans h
      cases k with
      | zoningFreeze => exact .inl (override_of_freeze now)
      | coolingOverride =>
        have was : s.holdEffective .coolingOverride = true := by simpa [now] using hn
        exact .inl was
    · exact .inr ⟨tr, (congrArg (fun e => TrayState.notCooling e.state) (trays tr)).symm.trans h⟩
  exact ⟨stirs.bounded hs bounded, fun tr => by rw [settings, trays]; exact least tr,
    fun hf tr => by rw [trays]; exact full (forced hf) tr⟩

theorem setLatch_agenda (l : LinkId) (k : HoldKind) (v : Bool) (s : State) :
    (s.setLatch l k v).agenda = s.agenda := by
  unfold State.setLatch
  split
  · rfl
  · dsimp only
    split
    · exact raiseBoth_agenda _
    · rfl

theorem holdRequest_laws (h : Header) (k : Option HoldKind) (v : Bool) (s : State) :
    Laws s (s.holdRequest h k v) := by
  unfold State.holdRequest
  split
  · exact (respond_works ..).laws
  · exact ((setLatch_keeps ..).laws (setLatch_agenda ..)).works (respond_works ..)

/-! ## Links and queues (R166 to R175) -/

theorem setQueue_works (l : LinkId) (q : EventQueue) (s : State) : Works s (s.setQueue l q) := .of_view rfl rfl rfl

theorem queueReset_works (l : LinkId) (s : State) : Works s (s.queueReset l) := setQueue_works ..

theorem arbiterReset_keeps (l : LinkId) (s : State) : Keeps s (s.arbiterReset l) := by
  unfold State.arbiterReset
  refine (setLatch_keeps ..).after ((setLatch_keeps ..).after ?_)
  split
  · exact .refl s
  · exact .ite (fun _ => (endHolding_works ..).keeps) fun _ => (takeStanding_works ..).keeps

theorem linkReset_keeps (l : LinkId) (up : Bool) (s : State) : Keeps s (s.linkReset l up) :=
  (queueReset_works ..).keeps.after ((arbiterReset_keeps ..).after (setLink_works ..).keeps)

theorem keepOutstanding_works (h : Header) (k : OutstandingKind) (s : State) : Works s (s.keepOutstanding h k) :=
  setLink_works ..

theorem placeCursor_works (h : Header) (tb : Option Table) (n : Nat) (d : Option Direction) (s : State) :
    Works s (s.placeCursor h tb n d) := by
  unfold State.placeCursor
  split
  · split
    · exact respond_works ..
    · exact .ite (fun _ => respond_works ..) fun _ => (respond_works ..).after (setLink_works ..)
  · exact respond_works ..

theorem advanceCursor_works (h : Header) (n : Nat) (s : State) : Works s (s.advanceCursor h n) := by
  refine .ite (fun _ => respond_works ..) fun _ => ?_
  split
  · exact respond_works ..
  · refine .ite (fun _ => respond_works ..) fun _ => ?_
    split
    · exact respond_works ..
    · exact (respond_works ..).after (setLink_works ..)

theorem fetch_works (h : Header) (n : Nat) (s : State) : Works s (s.fetch h n) :=
  .ite (fun _ => respond_works ..) fun _ => (respond_works ..).after (setQueue_works ..)

theorem setMask_works (h : Header) (m : ClassMask) (s : State) : Works s (s.setMask h m) :=
  (respond_works ..).after (setQueue_works ..)

theorem setDepth_works (h : Header) (n : Nat) (s : State) : Works s (s.setDepth h n) :=
  .ite (fun _ => respond_works ..) fun _ => .ite (fun _ => respond_works ..) fun _ =>
    (respond_works ..).after (setQueue_works ..)

theorem ackAlarm_works (h : Header) (x : AlarmTarget) (s : State) : Works s (s.ackAlarm h x) := by
  unfold State.ackAlarm
  split
  · split
    · exact (respond_works ..).after (acknowledge_reports ..).works
    · exact respond_works ..
  · exact (respond_works ..).after (.foldl (fun _ _ => (acknowledge_reports ..).works) _ s)

theorem cutOff_works (h : Header) (s : State) : Works s (s.cutOff h) :=
  (respond_works ..).after (.of_view rfl rfl rfl)

end Sys2Proof.Power
end

section
/-! Stored sections and starts keep the laws of settings, cooling, power and shutdown (R139, R179 to R181). -/

namespace Sys2Proof.Power
open Sys2Proof Sys2Proof.Machine

variable {s t u : State}

/-! ## Section loads (R39, R70, R91, R105, R124, R181) -/

theorem Works.heldAt (h : Works s t) (sl : Slot) : (t.auxAt sl).held = (s.auxAt sl).held :=
  congrArg (fun v => v.held sl) h.view

theorem Works.stirs (h : Works s t) : Stirs s t where
  settings := h.keeps.settings
  bounded _ hb := h.view ▸ hb
  ledger := h.keeps.ledger
  orders := h.ordered

theorem Stirs.trans (h : Stirs s t) (k : Stirs t u) : Stirs s u where
  settings hs := k.settings (h.settings hs)
  bounded hs hb := k.bounded (h.settings hs) (h.bounded hs hb)
  ledger hl := k.ledger (h.ledger hl)
  orders sl ho := k.orders sl (h.orders sl ho)

theorem failSection_works (x : StoreSection) (s : State) : Works s (s.failSection x) := by
  have failed : Works s (((s.setLoaded x .failed).setFault x true).markDirty x).handStoreFault :=
    (handStoreFault_reports _).works.after (.of_view rfl rfl rfl)
  exact .ite (fun _ => ((bump_works ..).trans (bump_works ..)).after failed) fun _ => failed

theorem loadAdmin_works (a : Vector (Vector Bool 48) 8) (s : State) (p : Port) : Works s (s.loadAdmin a p) :=
  .ite (fun _ => .refl s) fun _ => (writeRow_works ..).trans (relabel_serves ..).toWorks

/-- Settings loaded, with work and evaluations after them, and a raise where the tray minimum rose (R70). -/
theorem loadedSettings_keeps {f : Settings} (hf : s.SettingsLaw → f.Law) (work : Works { s with settings := f } t)
    (cools : Cools t u) : Keeps s (if s.settings.trayMin < u.settings.trayMin then u.raiseBoth else u) := by
  have taken : Stirs s { s with settings := f } :=
    ⟨fun hs => ⟨hf hs, hs.2⟩, fun _ hb => hb, ledgerLaw_of_power rfl rfl, fun _ ho => ho⟩
  have stirs := (taken.trans work.stirs).trans cools.stirs
  have low : u.settings = f := (read_lasting (·.settings) cools.lasting).trans (congrArg View.settings work.view)
  refine .ite (fun _ => stirs.raiseBoth) fun hn => stirs.keeps fun hs hc => ?_
  rw [low] at hn
  have mild : State.CoolingLaw { s with settings := f } := by
    rw [coolingLaw_iff] at hc ⊢
    obtain ⟨bounded, least, full⟩ := hc
    exact ⟨bounded, fun tr => (Nat.not_lt.1 hn).trans (least tr), full⟩
  exact cools.keeps.cooling (work.keeps.settings (taken.settings hs)) (work.keeps.cooling (taken.settings hs) mild)

theorem applyConfig_keeps {c : ConfigImage} (hc : s.SettingsLaw → c.settings.Law) : Keeps s (s.applyConfig c) := by
  unfold State.applyConfig
  extract_lets curve low t₀ t₁ t₂ t₃
  have flag : ∀ (t : State) (sl : Slot), Works t (t.setSlot sl { t.slotAt sl with autoPower := look c.autoPower sl }) :=
    fun t sl => setSlot_works rfl
  have flags : Works t₀ t₁ := .foldl flag allSlots t₀
  have admin : Works t₁ t₂ := .foldl (loadAdmin_works c.admin) allPorts t₁
  have sensorless : Cools t₂ t₃ := .ite (fun _ => .refl t₂) fun _ => deriveSensorless_cools t₂
  exact loadedSettings_keeps hc (flags.trans admin) sensorless

theorem applyLicences_works (l : List LicenceRec) (s : State) : Works s (s.applyLicences l) :=
  (capacityEffect_works ..).after ((evalExpiring_works _).after ((deriveCapacity_works _).after
    ((Works.ite (fun _ => .refl _) fun _ => bump_works ..).after (pool_works _ s))))

theorem applyZoning_works (z : ZoningImage) (s : State) : Works s (s.applyZoning z) :=
  (judgeAllKept_serves _).toWorks.after ((Works.ite (fun _ => bump_works ..) fun _ => .refl _).after (zoning_works _ s))

theorem setLoaded_works (x : StoreSection) (v : LoadState) (s : State) : Works s (s.setLoaded x v) :=
  .of_view rfl rfl rfl

theorem bumpDefined_works (s : State) : Works s s.bumpDefined := (bump_works ..).trans (bump_works ..)

theorem loadSection_keeps (x : StoreSection) (good : Bool) (s : State) : Keeps s (s.loadSection x good) := by
  have loaded := setLoaded_works x .good s
  unfold State.loadSection
  dsimp only
  split
  · cases x with
    | config =>
      dsimp only
      split
      · next c hc => exact loaded.keeps.trans (applyConfig_keeps fun hs => hs.2.1 c hc)
      · exact (failSection_works ..).keeps
    | licences =>
      dsimp only
      split
      · exact (loaded.trans (applyLicences_works ..)).keeps
      · exact (failSection_works ..).keeps
    | zoning =>
      dsimp only
      split
      · exact ((loaded.trans (bumpDefined_works _)).trans (applyZoning_works ..)).keeps
      · exact (failSection_works ..).keeps
  · exact (failSection_works ..).keeps

/-! ## Writes (R179) -/

/-- The store alone changes: the law of the settings may notice. -/
theorem store_keeps {k : Store} (h : s.SettingsLaw → State.SettingsLaw { s with store := k }) :
    Keeps s { s with store := k } :=
  ⟨h, fun _ hc => hc, ledgerLaw_of_power rfl rfl, fun _ ho => ho⟩

theorem setFault_works (x : StoreSection) (v : Bool) (s : State) : Works s (s.setFault x v) := .of_view rfl rfl rfl

theorem startWrite_keeps (x : StoreSection) (s : State) : Keeps s (s.startWrite x) := by
  refine store_keeps fun ⟨law, stored, _⟩ => ⟨law, stored, fun w c hw hc => ?_⟩
  obtain rfl := Option.some.inj hw
  cases x with
  | config => exact WriteContent.config.inj hc ▸ law
  | licences => cases hc
  | zoning => cases hc

/-- The stored CONFIG section after a write: what it was, or what the write took. -/
theorem replaced_law {w : Write} (hw : s.store.write = some w) (good : Bool) (hs : s.SettingsLaw) (c : ConfigImage)
    (hc : (if good then Store.replace s.store w.content else s.store).config = some c) : c.settings.Law := by
  obtain ⟨-, old, written⟩ := hs
  cases good with
  | false => exact old c hc
  | true =>
    rw [if_pos rfl] at hc
    cases hk : w.content with
    | config d =>
      rw [hk] at hc
      exact Option.some.inj hc ▸ written w d hw hk
    | licences l =>
      rw [hk] at hc
      exact old c hc
    | zoning z =>
      rw [hk] at hc
      exact old c hc

/-- What follows the store's own change: the fault condition, and the end of SAVING (R130, R179). -/
theorem written_keeps {k : Store} (x : StoreSection) (w : Write) (good : Bool) (h : Keeps s { s with store := k }) :
    Keeps s (let t := (State.setFault x (!good) { s with store := k }).handStoreFault
      if x = .zoning ∧ w.forCommit ∧ t.zoning.phase = .saving then t.endSaving good else t) := by
  have fault := h.trans ((setFault_works x (!good) { s with store := k }).trans (handStoreFault_reports _).works).keeps
  exact .ite (fun _ => fault.trans (endSaving_works good _).keeps) fun _ => fault

/-- The store is left with no write running. -/
theorem idleStore_keeps {k : Store} (hc : s.SettingsLaw → ∀ c, k.config = some c → c.settings.Law)
    (hw : k.write = none) : Keeps s { s with store := k } :=
  store_keeps fun hs => ⟨hs.1, hc hs, fun _ _ h => absurd (hw.symm.trans h) nofun⟩

theorem endWrite_keeps {w : Write} (hw : s.store.write = some w) (good : Bool) : Keeps s (s.endWrite w good) :=
  written_keeps _ w good (idleStore_keeps (replaced_law hw good) rfl)

/-! ## The two starts (R180) -/

theorem default_law : Settings.default.Law := by
  refine ⟨by decide, by decide, by decide, by decide, by decide, by decide, by decide, by decide, ?_, ?_, ?_, ?_⟩
  · rfl
  · rfl
  · decide
  · decide

/-- What a start leaves of the ledger's law: no slot draws power, and candidates stand at EMPTY slots (R22). -/
theorem started_ledgerLaw (hl : t.ledger = Ledger.atStart) (hs : ∀ sl, (t.slotAt sl).state = .empty)
    (hp : t.dev.phase = .starting) : t.LedgerLaw := by
  have hv : ∀ sl, (view t).state sl = .empty := hs
  have charged : (view t).charged = fill 8 false := congrArg Ledger.charged hl
  have shed : (view t).shedSet = fill 8 false := congrArg Ledger.shedSet hl
  refine (ledgerLaw_iff t).2 ⟨⟨fun sl => ?_, fun sl => ?_, fun sl _ => ⟨hp, .inl (hs sl)⟩⟩, ?_, fun hr => ?_⟩
  · rw [charged, hv, look_fill]
    simp [Drawing]
  · rw [shed, hv, look_fill]
    simp
  · rw [hl]
    exact ⟨⟨nofun, nofun⟩, fun k => absurd rfl k⟩
  · exact absurd (hp.symm.trans hr) nofun

theorem started_shutdownLaw (hs : ∀ sl, (t.slotAt sl).state = .empty) : t.ShutdownLaw :=
  fun sl h => by rw [hs sl] at h; simp at h

/-- After a start the settings are the default ones, and no write runs. -/
theorem started_settingsLaw (hf : t.settings = Settings.default) (hc : t.store.config = s.store.config)
    (hw : t.store.write = none) (h : s.SettingsLaw) : t.SettingsLaw :=
  ⟨hf ▸ default_law, fun c k => h.2.1 c (hc ▸ k), fun _ _ k => absurd (hw.symm.trans k) nofun⟩

theorem zoneAt_atStart (l r : Nat) (z : AirZone) (h : s.cooling = Cooling.atStart l r) :
    s.zoneAt z = ZoneCtl.atStart (match z with | .zoneL => l | .zoneR => r) := by
  cases z <;> exact congrArg (fun c => look c.zones _) h

theorem powerOn_laws (serial : Option Word) (s : State) : Laws s (s.powerOn serial) where
  settings := started_settingsLaw rfl rfl rfl
  cooling _ _ := by
    have duty : ∀ tr, ((s.powerOn serial).trayAt tr).duty = 100 := fun tr =>
      congrArg TrayEntry.duty (look_fill (TrayEntry.atStart 100) tr)
    refine (coolingLaw_iff _).2 ⟨⟨fun tr => (duty tr).le, fun z => ?_⟩, fun tr => ?_, fun _ => duty⟩
    · show ((s.powerOn serial).zoneAt z).demand ≤ 100
      rw [zoneAt_atStart 100 100 z rfl]
      cases z <;> decide
    · rw [duty]
      exact (by decide : 30 ≤ 100)
  ledger _ := started_ledgerLaw rfl (fun sl => congrArg SlotEntry.state (look_fill SlotEntry.atStart sl)) rfl
  shutdown _ _ := started_shutdownLaw fun sl => congrArg SlotEntry.state (look_fill SlotEntry.atStart sl)

theorem zoneDuty_le (h : ∀ tr, (s.trayAt tr).duty ≤ 100) (z : AirZone) : s.zoneDuty z ≤ 100 := by
  have bound : ∀ (l : List Nat) (n : Nat), n ≤ 100 → (∀ x ∈ l, x ≤ 100) → l.foldl max n ≤ 100 := by
    intro l
    induction l with
    | nil => exact fun n hn _ => hn
    | cons x l ih =>
      exact fun n hn hl => ih _ (Nat.max_le.2 ⟨hn, hl x List.mem_cons_self⟩) fun y hy => hl y (List.mem_cons_of_mem x hy)
  refine bound _ 0 (by decide) fun x hx => ?_
  obtain ⟨tr, -, rfl⟩ := List.mem_map.1 hx
  exact h tr

/-- A warm restart up to its raise: the outputs held, every other state at its start value (R71, R180). -/
def restarted (cause : StartCause) (serial : Option Word) (s : State) : State :=
  { State.reset with
    dev := Device.atStart cause serial
    ctl := s.ctl.map fun c => PosCtl.atStart c.input
    aux := Vector.ofFn fun sl => s.heldAux sl
    trays := s.trays.map fun e => TrayEntry.atStart e.duty
    cooling := Cooling.atStart (s.zoneDuty .zoneL) (s.zoneDuty .zoneR)
    arbiter := Arbiter.atStart s.restartEpoch
    alarms := { s.alarms with recording := true, recorded := fill 57 false }
    links := s.links.map fun l => Link.atStart l.up
    store := Store.atStart s.store.config s.store.licences s.store.zoning
    pending := s.pending }

theorem restart_eq (cause : StartCause) (serial : Option Word) (s : State) :
    s.restart cause serial = { (restarted cause serial s).raiseBoth with counts := fill 11 0 } := rfl

theorem restarted_bounded (cause : StartCause) (serial : Option Word) (h : ∀ tr, (s.trayAt tr).duty ≤ 100) :
    Bounded (view (restarted cause serial s)) := by
  refine ⟨fun tr => ?_, fun z => ?_⟩
  · show (look (s.trays.map fun e => TrayEntry.atStart e.duty) tr).duty ≤ 100
    rw [look_map]
    exact h tr
  · show ((restarted cause serial s).zoneAt z).demand ≤ 100
    rw [zoneAt_atStart (s.zoneDuty .zoneL) (s.zoneDuty .zoneR) z rfl]
    cases z <;> exact zoneDuty_le h _

theorem counts_works (c : Vector Word 11) (s : State) : Works s { s with counts := c } := .of_view rfl rfl rfl

theorem restarted_laws (cause : StartCause) (serial : Option Word) (s : State) :
    Laws s (restarted cause serial s).raiseBoth := by
  have raised := raiseBoth_cools (restarted cause serial s)
  have empty : ∀ sl, ((restarted cause serial s).slotAt sl).state = .empty := fun sl =>
    congrArg SlotEntry.state (look_fill SlotEntry.atStart sl)
  have states : ∀ sl, ((restarted cause serial s).raiseBoth.slotAt sl).state = .empty := fun sl =>
    (raised.state sl).trans (empty sl)
  have settings : (restarted cause serial s).raiseBoth.settings = Settings.default :=
    read_lasting (·.settings) raised.lasting
  have store : (restarted cause serial s).raiseBoth.store = (restarted cause serial s).store :=
    read_lasting (·.store) raised.lasting
  have config : (restarted cause serial s).raiseBoth.store.config = s.store.config :=
    (congrArg Store.config store).trans rfl
  have write : (restarted cause serial s).raiseBoth.store.write = none := (congrArg Store.write store).trans rfl
  have phase : (restarted cause serial s).raiseBoth.dev.phase = .starting :=
    (read_lasting (·.dev.phase) raised.lasting).trans rfl
  have ledger : (restarted cause serial s).raiseBoth.ledger = Ledger.atStart := raised.ledger.trans rfl
  refine ⟨started_settingsLaw settings config write, fun _ hc => ?_,
    fun _ => started_ledgerLaw ledger states phase, fun _ _ => started_shutdownLaw states⟩
  obtain ⟨⟨duties, -⟩, -⟩ := (coolingLaw_iff s).1 hc
  exact raiseBoth_coolingLaw (s := restarted cause serial s) (by decide : 30 ≤ 100)
    (restarted_bounded cause serial duties)

theorem restart_laws (cause : StartCause) (serial : Option Word) (s : State) : Laws s (s.restart cause serial) := by
  rw [restart_eq]
  exact (restarted_laws cause serial s).works (counts_works ..)

/-! ## The end of STARTING (R181) -/

theorem failUnloaded_works (s : State) : Works s s.failUnloaded :=
  .foldl (fun _ _ => .ite (fun _ => failSection_works ..) fun _ => .refl _) _ s

theorem releaseCandidate_held (sl k : Slot) (c : Cause) (s : State) :
    ((s.releaseCandidate sl c).auxAt k).held = if k = sl then none else (s.auxAt k).held := by
  have enter := setSlotState_moves sl .faulted c (s.dropHeld sl)
  have rows := rowsOfIdentity_works sl ((s.dropHeld sl).setSlotState sl .faulted c)
  have work : Works ((s.dropHeld sl).setSlotState sl .faulted c) (s.releaseCandidate sl c) :=
    .ite (fun _ => rows) fun _ => rows.trans (queuePoll_serves ..).toWorks
  have drop := setAux_moves (sl := sl) (a := { s.auxAt sl with line := false, held := none, matched := false }) rfl s
  exact (congrArg (fun v => v.held k) work.view).trans ((congrArg (fun v => v.held k) enter.view).trans
    (congrArg (fun v => v.held k) drop.view))

theorem releaseStep_keeps (sl : Slot) (s : State) :
    Keeps s (if (s.auxAt sl).held.isSome then s.releaseCandidate sl .notAdopted else s) := by
  refine .ite (fun h => releaseCandidate_keeps _ fun hl => ?_) fun _ => .refl s
  have place := (((ledgerLaw_iff s).1 hl).1.held sl (Option.isSome_iff_ne_none.1 h)).2
  intro hd
  rcases place with e | e
  · exact not_drawing_empty (e ▸ hd)
  · exact not_drawing_qualifying (e ▸ hd)

theorem releaseAll_keeps (s : State) : Keeps s s.releaseAll := .foldl (fun t sl => releaseStep_keeps sl t) _ s

/-- No candidate is left (R23). -/
theorem releaseAll_held (s : State) (k : Slot) : (s.releaseAll.auxAt k).held = none := by
  have step : ∀ (t : State) (sl j : Slot), ((if (t.auxAt sl).held.isSome then t.releaseCandidate sl .notAdopted
      else t).auxAt j).held = if j = sl then none else (t.auxAt j).held := by
    intro t sl j
    split
    · exact releaseCandidate_held ..
    · next h =>
      split
      · next e => exact e ▸ Option.not_isSome_iff_eq_none.1 h
      · rfl
  have all : ∀ (l : List Slot) (t : State), k ∈ l ∨ (t.auxAt k).held = none → ((l.foldl (fun t sl =>
      if (t.auxAt sl).held.isSome then t.releaseCandidate sl .notAdopted else t) t).auxAt k).held = none := by
    intro l
    induction l with
    | nil => exact fun t h => h.resolve_left List.not_mem_nil
    | cons i l ih =>
      refine fun t h => ih _ ?_
      rw [step]
      by_cases e : k = i
      · exact .inr (if_pos e)
      · rw [if_neg e]
        exact h.imp_left fun hm => (List.mem_cons.1 hm).resolve_left e
  exact all allSlots s (.inl (mem_allFin k))

/-- The device enters RUNNING with no candidate left, and the ledger is computed for the first time (R49). -/
theorem enterRunning_keeps (hh : ∀ sl, (s.auxAt sl).held = none) : Keeps s s.enterRunning.firstComputation := by
  have computed := ledgerSteps_accounts 0 s.enterRunning
  have served := serve_serves (State.ledgerSteps 0 { s.enterRunning with ledger := s.enterRunning.ledgerStages })
  have rest := computed.serves.trans served
  refine ⟨fun hs => rest.keeps.settings hs, fun hs hc => rest.keeps.cooling (s := s.enterRunning) hs hc, fun hl => ?_,
    fun k ho => rest.keeps.orders k ho⟩
  obtain ⟨⟨charged, shedSet, -⟩, timers, -⟩ := (ledgerLaw_iff s).1 hl
  have matched : Matched (view s.enterRunning) := ⟨charged, shedSet, fun sl k => absurd (hh sl) k⟩
  exact (ledgerLaw_iff _).2 ⟨rest.view ▸ matched, rest.timers timers, served.covered (ledgerSteps_covered 0 _)⟩

theorem deferredAdmissions_keeps (s : State) : Keeps s s.deferredAdmissions :=
  .foldl (fun _ _ => .ite (fun h => autoPower_keeps h) fun _ => .refl _) _ s

/-- What follows the deferred admissions: the headroom notice, the settle timer, and the conditions recorded (R49,
R152, R181). -/
theorem finishStarting_laws (h : Keeps s t) : Laws s ((t.hand .headroom).serve.startSettle).settle.applyRecorded := by
  have started : Works (t.hand .headroom).serve (t.hand .headroom).serve.startSettle := arbiter_works rfl
  exact (h.trans (((hand_serves .headroom t).trans (serve_serves _)).toWorks.trans started).keeps).settle.works
    (applyRecorded_reports _).works

theorem endStarting_laws (s : State) : Laws s s.endStarting := by
  have released := (failUnloaded_works s).keeps.trans (releaseAll_keeps _)
  have settled := (fixGeneration_works s.failUnloaded.releaseAll).trans (settleClaims_works _)
  have none : ∀ sl, (s.failUnloaded.releaseAll.fixGeneration.settleClaims.auxAt sl).held = none := fun sl =>
    (settled.heldAt sl).trans (releaseAll_held _ sl)
  exact finishStarting_laws (((released.trans settled.keeps).trans (enterRunning_keeps none)).trans
    (deferredAdmissions_keeps _))

end Sys2Proof.Power
end

section
/-! Every command keeps the laws of settings, cooling, power and shutdown. -/

namespace Sys2Proof.Power
open Sys2Proof Sys2Proof.Machine

variable {s t u : State}

/-! ## The inventory's requests (R7, R11 to R13) -/

theorem requalifyRefusal_slot {sl : Slot} (h : s.requalifyRefusal (.slot sl) = none) :
    (s.slotAt sl).state = .rejected := by
  unfold State.requalifyRefusal at h
  dsimp only at h
  split at h
  · next e => exact e
  · cases h
  · cases h
  · cases h

theorem requalify_keeps (h : Header) (n : PositionName) (s : State) : Keeps s (s.requalify h n) := by
  unfold State.requalify
  split
  · exact (respond_works ..).keeps
  · next pos _ =>
    split
    · exact (respond_works ..).keeps
    · next hr =>
      refine (respond_works ..).keeps.after (enterQualifying_keeps _ fun sl e => ?_)
      subst e
      exact requalifyRefusal_slot hr ▸ not_drawing_rejected

theorem setAutoPower_works (h : Header) (n : Nat) (on : Bool) (s : State) : Works s (s.setAutoPower h n on) := by
  unfold State.setAutoPower
  split
  · exact respond_works ..
  · next sl _ =>
    have flag : Works s (s.setSlot sl { s.slotAt sl with autoPower := on }) := setSlot_works rfl
    exact (respond_works ..).after (.ite (fun _ => .refl s) fun _ => flag.trans (markDirty_works ..))

theorem askAdmission_keeps {sl : Slot} (h : Header) (he : (s.slotAt sl).state ≠ .empty)
    (hq : (s.slotAt sl).state ≠ .qualifying) : Keeps s (s.askAdmission h sl) := by
  unfold State.askAdmission
  split
  · exact (respond_works ..).keeps
  · exact (powerUp_keeps _ fun hl => held_eq_none hl he hq).trans (respond_works ..).keeps

theorem slotOn_keeps (h : Header) (n : Nat) (s : State) : Keeps s (s.slotOn h n) := by
  have answer : ∀ st, Keeps s (s.respond h.link h.tag st .none) := fun st => (respond_works ..).keeps
  unfold State.slotOn
  split
  · exact answer _
  · next sl _ =>
    split
    · next e => exact askAdmission_keeps h (by rw [e]; decide) (by rw [e]; decide)
    · next e => exact askAdmission_keeps h (by rw [e]; decide) (by rw [e]; decide)
    · next e =>
      exact .ite (fun _ => askAdmission_keeps h (by rw [e]; decide) (by rw [e]; decide)) fun _ => answer _
    all_goals exact answer _

theorem slotOff_keeps (h : Header) (n : Nat) (s : State) : Keeps s (s.slotOff h n) := by
  have answer : ∀ st, Keeps s (s.respond h.link h.tag st .none) := fun st => (respond_works ..).keeps
  have leave : ∀ sl, Keeps s ((s.leavePower sl .off .request).respond h.link h.tag .ok .none) := fun sl =>
    (leavePower_keeps sl not_drawing_off _ s).trans (respond_works ..).keeps
  have off : ∀ sl, ¬Drawing (s.slotAt sl).state → (s.slotAt sl).state ≠ .empty → (s.slotAt sl).state ≠ .qualifying →
      Keeps s ((s.setSlotState sl .off .request).respond h.link h.tag .ok .none) := fun sl hd he hq =>
    (setSlotState_keeps _ (fun _ => hd) not_drawing_off (by decide) fun hl => .inl (held_eq_none hl he hq)).trans
      (respond_works ..).keeps
  unfold State.slotOff
  split
  · exact answer _
  · next sl _ =>
    split
    · exact leave sl
    · exact leave sl
    · next e => exact off sl (e ▸ not_drawing_shed) (by rw [e]; decide) (by rw [e]; decide)
    · next e => exact off sl (e ▸ not_drawing_thermalOff) (by rw [e]; decide) (by rw [e]; decide)
    · next e => exact off sl (e ▸ not_drawing_faulted) (by rw [e]; decide) (by rw [e]; decide)
    all_goals exact answer _

/-! ## The pool's and the port manager's requests (R74, R75, R84, R100, R101) -/

theorem setLicences_works (l : List LicenceRec) (s : State) : Works s (s.setLicences l) :=
  (bump_works ..).after ((markDirty_works ..).after (pool_works ..))

theorem install_works (h : Header) (f : LicenceFields) (s : State) : Works s (s.install h f) := by
  unfold State.install
  split
  · exact respond_works ..
  · exact (respond_works ..).after ((capacityEffect_works ..).after ((licenceEvent_reports ..).works.after
      ((evalExpiring_works _).after ((deriveCapacity_works _).after (setLicences_works ..)))))

theorem removeLicence_works (h : Header) (w : Word) (s : State) : Works s (s.removeLicence h w) := by
  refine .ite (fun _ => respond_works ..) fun _ => ?_
  split
  · exact respond_works ..
  · exact (respond_works ..).after ((capacityEffect_works ..).after ((licenceEvent_reports ..).works.after
      ((deriveCapacity_works _).after ((evalExpiring_works _).after (setLicences_works ..)))))

theorem releaseUnit_works (h : Header) (n : Nat) (s : State) : Works s (s.releaseUnit h n) := by
  unfold State.releaseUnit
  split
  · exact respond_works ..
  · exact .ite (fun _ => respond_works ..) fun _ => .ite (fun _ => respond_works ..) fun _ =>
      (respond_works ..).after ((availability_serves _).toWorks.after ((licenceEvent_reports ..).works.after
        ((stopParkIfEmpty_serves ..).toWorks.after (setUnit_works ..))))

theorem setAdmin_works (p : Port) (v : Bool) (s : State) : Works s (s.setAdmin p v) := writeRow_works ..

theorem enableRow_works (p : Port) (s : State) : Works s (s.enableRow p) :=
  (setAdmin_works ..).trans (evaluate_serves ..).toWorks

theorem disableRow_works (p : Port) (s : State) : Works s (s.disableRow p) :=
  (Works.ite (fun _ => (goDown_serves ..).toWorks) fun _ => (relabel_serves ..).toWorks).after (setAdmin_works ..)

theorem takeRows_works {f : Port → State → State} (hf : ∀ p t, Works t (f p t)) (ps : List Port) (s : State) :
    Works s (State.takeRows f ps s).1 := by
  induction ps generalizing s with
  | nil => exact .refl s
  | cons p ps ih => exact (hf p s).trans (ih _)

theorem adminPorts_works {f : Port → State → State} (hf : ∀ p t, Works t (f p t)) (h : Header) (first last : Nat)
    (v : Bool) (s : State) : Works s (s.adminPorts h first last v f) :=
  .ite (fun _ => respond_works ..) fun _ => (respond_works ..).after
    ((Works.ite (fun _ => markDirty_works ..) fun _ => .refl _).after (takeRows_works hf ..))

/-! ## The zoning engine's requests (R112, R121, R127 to R129) -/

theorem openTxn_works (h : Header) (s : State) : Works s (s.openTxn h) := by
  refine .ite (fun _ => respond_works ..) fun _ => .ite (fun _ => respond_works ..) fun _ => ?_
  split
  · exact respond_works ..
  · exact (respond_works ..).after ((bump_works ..).after ((bump_works ..).after (setTxn_works ..)))

theorem abortTxn_works (h : Header) (s : State) : Works s (s.abortTxn h) := by
  unfold State.abortTxn
  split
  · exact (respond_works ..).after (abort_works ..)
  · exact respond_works ..
  · exact respond_works ..

theorem startCommit_works (h : Header) (s : State) : Works s (s.startCommit h) := by
  unfold State.startCommit
  split
  · exact respond_works ..
  · exact .ite (fun _ => respond_works ..) fun _ => .ite (fun _ => respond_works ..) fun _ =>
      (keepOutstanding_works ..).after (zoning_works ..)

theorem judgeCommit_works (x : Transaction) (s : State) : Works s (s.judgeCommit x) := by
  refine .ite (fun _ => failValidation_works ..) fun _ => ?_
  split
  · exact failValidation_works ..
  · split
    · exact failValidation_works ..
    · exact passValidation_works ..

/-! ## Outcomes on the module bus (R1) -/

theorem endTxn_laws {f : State → State} (r : Running) (hf : Keeps s (f s)) : Laws s (s.endTxn r f) := by
  have done : Keeps s (if r.withdrawn then s else f s) := .ite (fun _ => .refl s) fun _ => hf
  exact done.settle.works (freeBus_serves _).toWorks

theorem takeOutcome_laws {x : Txn} {f : Running → State → State} (hf : ∀ r, Keeps s (f r s)) :
    Laws s (s.takeOutcome x f) := by
  unfold State.takeOutcome
  split
  · exact endTxn_laws _ (hf _)
  · exact .refl s

theorem recordEnabled_works (p : Port) (v : Bool) (s : State) : Works s (s.recordEnabled p v) := setAux_works rfl

theorem enableAccepted_works (p : Port) (s : State) : Works s (s.enableAccepted p) :=
  (Works.ite (fun _ => (setCond_serves ..).toWorks) fun _ => .refl _).after (recordEnabled_works ..)

/-! ## Timers (R44, R48, R77) -/

theorem restoreExpiry_works (s : State) : Works s (State.startPass { s with ledger := { s.ledger with
    restoreTimer := none } }) := ((stopRestore_books s).trans (startPass_books _)).serves.toWorks

/-- The grace timer's expiry: in GRACE the restore timer is stopped (R43, R46). -/
theorem graceExpiry_keeps (h : s.ledger.overcommit = .grace) : Keeps s (s.startShedding 2) := by
  have stopped : Timers s.ledger → s.ledger.restoreTimer = none := fun ht =>
    Classical.not_not.1 fun k => by simpa [h] using (ht.2 k).1
  exact (startShedding_books 2 stopped).serves.keeps

theorem expireTrials_works (l : List Nat) (old : Nat) (s : State) :
    Works s ((l.foldl (fun t i => t.licenceEvent 2 i t.pool.capacity) s).capacityEffect old) :=
  (capacityEffect_works ..).after (.foldl (fun _ _ => (licenceEvent_reports ..).works) l s)

theorem ageMinute_works (s : State) : Works s s.ageMinute := by
  unfold State.ageMinute
  extract_lets old gone kept aged bumped marked hourly judged
  have hAged : Works s aged := pool_works ..
  have hBumped : Works s bumped := hAged.trans (.ite (fun _ => bump_works ..) fun _ => .refl _)
  have hMarked : Works s marked := hBumped.trans (.ite (fun _ => .refl _) fun _ => markDirty_works ..)
  have hHourly : Works s hourly := hMarked.trans (.ite (fun _ => markDirty_works ..) fun _ => .refl _)
  have hJudged : Works s judged := hHourly.trans (evalExpiring_works _)
  exact .ite (fun _ => hJudged) fun _ => (expireTrials_works ..).after ((deriveCapacity_works _).after hJudged)

theorem readyExpiry_keeps (sl : Slot) (s : State) :
    Keeps s ((s.setReadyTimer sl none).leavePower sl .faulted .readyTimeout) := by
  have stopped : Works s (s.setReadyTimer sl none) := setAux_works rfl
  exact stopped.keeps.trans (leavePower_keeps sl not_drawing_faulted _ _)

theorem settleExpired_works (s : State) : Works s s.settleExpired :=
  (evalHeadless_works _).after (arbiter_works rfl)

/-! ## One command -/

/-- The outcome of a command that keeps the laws. -/
def Lawful (s : State) (o : Host.Outcome State Fault Refusal) : Prop := ∀ t, o = .next t → Laws s t

theorem lawful_done (h : Laws s t) : Lawful s (done t) := by
  rintro _ ⟨⟩
  exact h

theorem lawful_request {r : Right} {always : Bool} {h : Header} {f : State → State} (hf : Laws s (f s)) :
    Lawful s (done (s.request r always h f)) := lawful_done (request_laws hf)

theorem lawful_settled {r : Right} {always : Bool} {h : Header} {f : State → State} (hf : Keeps s (f s)) :
    Lawful s (done (s.request r always h f).settle) := lawful_done (request_keeps hf).settle

theorem lawful_edit {r : Right} {always : Bool} {h : Header} {f : State → State} (hf : Works s (f s)) :
    Lawful s (done (s.request r always h f)) := lawful_request hf.laws

/-- A timer's expiry, taken while its condition holds. -/
theorem lawful_when {c : Prop} [Decidable c] (ht : c → Laws s t) : Lawful s (done (if c then t else s)) :=
  lawful_done (.ite ht fun _ => .refl s)

theorem clearSticky_works (h : Header) (s : State) : Works s (s.clearSticky h) := by
  have cleared : Works s { s with ledger := { s.ledger with
      headroomLow := s.ledger.headroomLow && s.ledger.low
      clamp := s.ledger.clamp && s.ledger.saturated } } := ⟨rfl, fun _ hx _ => hx, id, id⟩
  exact cleared.trans (respond_works ..)

theorem releaseRole_works (h : Header) (s : State) : Works s (s.releaseRole h) :=
  .ite (fun _ => respond_works ..) fun _ => (endHolding_works .released s).trans (respond_works ..)

/-! ## Events that act on what they find -/

theorem lawful_refl (s : State) : Lawful s (done s) := lawful_done (.refl s)

theorem debounceTimerExpiry_lawful (pos : Position) (s : State) : Lawful s (execDebounceTimerExpiry pos s) := by
  unfold execDebounceTimerExpiry
  split
  · exact lawful_done (takePresence_keeps ..).settle
  · exact lawful_refl s

theorem identityReadTimeout_lawful (s : State) : Lawful s (execIdentityReadTimeout s) := by
  unfold execIdentityReadTimeout
  split
  · split
    · exact lawful_done (endTxn_laws _ (identityLost_keeps ..))
    · exact lawful_refl s
  · exact lawful_refl s

theorem statusPollReply_lawful (pos : Position) (r : PollReply) (s : State) :
    Lawful s (execStatusPollReply pos r s) := by
  unfold execStatusPollReply
  split
  · next t h => exact lawful_done (takeOutcome_laws fun _ => (takePoll_keeps h).trans (pollEnded_works ..).keeps)
  · exact lawful_refl s

theorem statusPollTimeout_lawful (s : State) : Lawful s (execStatusPollTimeout s) := by
  unfold execStatusPollTimeout
  split
  · split
    · exact lawful_done (endTxn_laws _ ((pollLost_keeps ..).trans (pollEnded_works ..).keeps))
    · exact lawful_refl s
  · exact lawful_refl s

theorem bladeCommandTimeout_lawful (s : State) : Lawful s (execBladeCommandTimeout s) := by
  have fault : ∀ r sl, Lawful s (done (s.endTxn r fun t => t.leavePower sl .faulted .commandTimeout)) := fun r sl =>
    lawful_done (endTxn_laws r (leavePower_keeps sl not_drawing_faulted _ s))
  unfold execBladeCommandTimeout
  split
  · split
    · exact fault _ _
    · exact fault _ _
    · exact lawful_refl s
  · exact lawful_refl s

theorem pushTimeout_lawful (s : State) : Lawful s (execPushTimeout s) := by
  unfold execPushTimeout
  split
  · split
    · exact lawful_done (endTxn_laws _ (pushOutcome_serves ..).keeps)
    · exact lawful_refl s
  · exact lawful_refl s

theorem validationComplete_lawful (s : State) : Lawful s (execValidationComplete s) := by
  unfold execValidationComplete
  split
  · exact lawful_when fun _ => (judgeCommit_works ..).laws
  · exact lawful_refl s

theorem storeWriteStart_lawful (s : State) : Lawful s (execStoreWriteStart s) := by
  unfold execStoreWriteStart
  split
  · exact lawful_when fun _ => (startWrite_keeps ..).laws rfl
  · exact lawful_refl s

theorem storeWriteComplete_lawful (good : Bool) (s : State) : Lawful s (execStoreWriteComplete good s) := by
  unfold execStoreWriteComplete
  split
  · next w hw => exact lawful_done (endWrite_keeps hw good).settle
  · exact lawful_refl s

theorem settleTimerExpiry_lawful (s : State) : Lawful s (execSettleTimerExpiry s) := by
  unfold execSettleTimerExpiry
  split
  · exact lawful_done (settleExpired_works s).laws
  · exact lawful_refl s

theorem exec_lawful (i : Instr) (s : State) : Lawful s (exec i s) := by
  cases i with
  | powerOnReset serial => exact lawful_done (powerOn_laws serial s)
  | warmRestart cause serial =>
    cases cause with
    | line => exact lawful_done (restart_laws ..)
    | requested => exact lawful_when fun _ => restart_laws ..
  | sectionLoadComplete x good => exact lawful_when fun _ => (loadSection_keeps x good s).settle
  | endOfStarting => exact lawful_when fun _ => endStarting_laws s
  | linkUp l =>
    refine lawful_done (.ite (fun _ => .refl s) fun _ => Works.laws ?_)
    exact (Works.ite (fun _ => queueReset_works ..) fun _ => .refl _).after (setLink_works ..)
  | linkReset l cause =>
    cases cause with
    | down => exact lawful_when fun _ => (linkReset_keeps ..).settle
    | responseSent => exact lawful_when fun _ => (linkReset_keeps ..).settle
  | frameDiscarded l bytes => exact lawful_when fun _ => (setLink_works ..).laws
  | unknownRequest h code =>
    exact lawful_when fun _ => .ite (fun _ => (respond_works ..).laws) fun _ => (respond_works ..).laws
  | getStatus h => exact lawful_edit (respond_works ..)
  | resetLink h => exact lawful_edit ((respond_works ..).trans (keepOutstanding_works ..))
  | restartPart h => exact lawful_edit ((respond_works ..).trans (keepOutstanding_works ..))
  | setCursor h tb n d => exact lawful_edit (placeCursor_works ..)
  | readCursor h n => exact lawful_edit (advanceCursor_works ..)
  | requalify h n => exact lawful_settled (requalify_keeps ..)
  | setAutoPower h n on => exact lawful_edit (setAutoPower_works ..)
  | powerSlotOn h n => exact lawful_settled (slotOn_keeps ..)
  | powerSlotOff h n => exact lawful_settled (slotOff_keeps ..)
  | clearSticky h => exact lawful_edit (clearSticky_works ..)
  | readLedger h => exact lawful_edit (respond_works ..)
  | setRedundancyPolicy h policy => exact lawful_settled (setPolicy_keeps ..)
  | setGraceTime h seconds => exact lawful_request (setGraceTime_laws ..)
  | setHeadroomWarning h percent => exact lawful_request (setWarning_laws ..)
  | setReportScale h scale => exact lawful_request (setScale_laws ..)
  | setShedPriority h slots => exact lawful_request (setPriority_laws ..)
  | setAutoRestore h on => exact lawful_request (setAutoRestore_laws ..)
  | setFanCurve h points => exact lawful_settled (setCurve_keeps ..)
  | setHysteresis h value => exact lawful_request (setHysteresis_laws ..)
  | setTrayMinimum h duty => exact lawful_request (setMinimum_laws ..)
  | setTemperatureThresholds h warn crit shutdown => exact lawful_settled (setThresholds_keeps ..)
  | readCooling h => exact lawful_edit (respond_works ..)
  | installLicence h lic => exact lawful_settled (install_works ..).keeps
  | removeLicence h serial => exact lawful_settled (removeLicence_works ..).keeps
  | releasePortUnit h port => exact lawful_settled (releaseUnit_works ..).keeps
  | setParkTime h seconds => exact lawful_request (setParkTime_laws ..)
  | readLicencePool h => exact lawful_edit (respond_works ..)
  | enablePorts h first last => exact lawful_settled (adminPorts_works enableRow_works ..).keeps
  | disablePorts h first last => exact lawful_settled (adminPorts_works disableRow_works ..).keeps
  | openTransaction h => exact lawful_edit (openTxn_works ..)
  | createZone h name => exact lawful_edit (runEdit_works ..)
  | renameZone h zone name => exact lawful_edit (runEdit_works ..)
  | deleteZone h zone => exact lawful_edit (runEdit_works ..)
  | addMember h zone member => exact lawful_edit (runEdit_works ..)
  | removeMember h zone member => exact lawful_edit (runEdit_works ..)
  | createConfiguration h name zone => exact lawful_edit (runEdit_works ..)
  | deleteConfiguration h cfg => exact lawful_edit (runEdit_works ..)
  | addZoneToConfiguration h cfg zone => exact lawful_edit (runEdit_works ..)
  | removeZoneFromConfiguration h cfg zone => exact lawful_edit (runEdit_works ..)
  | selectActiveConfiguration h cfg => exact lawful_edit (runEdit_works ..)
  | setDefaultAccess h access => exact lawful_edit (runEdit_works ..)
  | abortTransaction h => exact lawful_edit (abortTxn_works ..)
  | readZoning h => exact lawful_edit (respond_works ..)
  | commit h => exact lawful_edit (startCommit_works ..)
  | claimActive h => exact lawful_edit (asControl_works fun c => claim_works ..)
  | renew h => exact lawful_edit ((startLease_works s).trans (respond_works ..))
  | declareStandby h ready => exact lawful_edit (asControl_works fun c => declare_works ..)
  | yieldActive h => exact lawful_edit ((endHolding_works .yielded s).trans (respond_works ..))
  | releaseActive h => exact lawful_edit (releaseRole_works ..)
  | setLeaseTime h ms => exact lawful_request (setLeaseTime_laws ..)
  | setHold h kind => exact lawful_request (holdRequest_laws ..)
  | releaseHold h kind => exact lawful_request (holdRequest_laws ..)
  | readRoles h => exact lawful_edit (respond_works ..)
  | acknowledgeAlarm h target => exact lawful_edit (ackAlarm_works ..)
  | cutOffAudible h => exact lawful_edit (cutOff_works ..)
  | readAlarmSummary h => exact lawful_edit (respond_works ..)
  | fetchEvents h n => exact lawful_edit (fetch_works ..)
  | setEventMask h mask => exact lawful_edit (setMask_works ..)
  | setQueueDepth h depth => exact lawful_edit (setDepth_works ..)
  | readEventQueue h => exact lawful_edit (respond_works ..)
  | presenceInputChange pos present => exact lawful_done (.ite (fun _ => .refl s) fun _ => (setCtl_works ..).laws)
  | debounceTimerExpiry pos => exact debounceTimerExpiry_lawful pos s
  | identityReadReply pos reply => exact lawful_done (takeOutcome_laws fun _ => identityTaken_keeps ..)
  | identityReadTimeout => exact identityReadTimeout_lawful s
  | statusPollReply pos reply => exact statusPollReply_lawful pos reply s
  | statusPollTimeout => exact statusPollTimeout_lawful s
  | pollTimerExpiry pos => exact lawful_when fun _ => ((setPollTimer_works ..).trans (queuePoll_serves ..).toWorks).laws
  | readyTimerExpiry slot => exact lawful_when fun _ => (readyExpiry_keeps ..).settle
  | powerEnableReply slot => exact lawful_done (takeOutcome_laws fun _ => .refl s)
  | portEnableReply port => exact lawful_done (takeOutcome_laws fun _ => (enableAccepted_works ..).keeps)
  | portDisableReply port => exact lawful_done (takeOutcome_laws fun _ => (recordEnabled_works ..).keeps)
  | bladeCommandTimeout => exact bladeCommandTimeout_lawful s
  | untakenReply pos => exact lawful_refl s
  | pushReply slot gen => exact lawful_done (takeOutcome_laws fun _ => (pushOutcome_serves ..).keeps)
  | pushTimeout => exact pushTimeout_lawful s
  | repushTimerExpiry slot => exact lawful_when fun _ => ((setRepush_serves ..).trans (queuePush_serves ..)).toWorks.laws
  | graceTimerExpiry => exact lawful_when fun h => (graceExpiry_keeps h.2).settle
  | restoreTimerExpiry => exact lawful_when fun _ => (restoreExpiry_works s).keeps.settle
  | updateTimerExpiry zone => exact lawful_when fun _ => (updateZone_keeps ..).laws (updateZone_agenda ..)
  | uptimeMinuteTimerExpiry => exact lawful_when fun _ => (ageMinute_works s).keeps.settle
  | parkTimerExpiry slot => exact lawful_when fun _ => (parkExpire_works ..).keeps.settle
  | validationComplete => exact validationComplete_lawful s
  | storeWriteStart => exact storeWriteStart_lawful s
  | storeWriteComplete good => exact storeWriteComplete_lawful good s
  | leaseTimerExpiry => exact lawful_when fun _ => (endHolding_works ..).laws
  | settleTimerExpiry => exact settleTimerExpiry_lawful s

/-! ## One step (assumption 5) -/

theorem countDown_isSome (x : Option Nat) : (countDown x).isSome = x.isSome := Option.isSome_map

theorem countDown_ne_none {x : Option Nat} (h : countDown x ≠ none) : x ≠ none := by
  rintro rfl
  exact h rfl

theorem counted_works (s : State) : Works s s.counted where
  view := by
    have held : ∀ sl, ((s.counted).auxAt sl).held = (s.auxAt sl).held := fun sl =>
      (congrArg SlotAux.held (look_map s.aux SlotAux.counted sl)).trans rfl
    have zone : ∀ z, (((s.counted).zoneAt z).temp, ((s.counted).zoneAt z).demand) =
        ((s.zoneAt z).temp, (s.zoneAt z).demand) := fun z =>
      (congrArg (fun x : ZoneCtl => (x.temp, x.demand))
        (look_map s.cooling.zones ZoneCtl.counted (AirZone.idx z))).trans rfl
    exact congrArg₂ (fun a b => { view s with held := a, zone := b }) (funext held) (funext zone)
  orders _ hx _ := hx
  timers := fun ⟨grace, restore⟩ => ⟨(Bool.eq_iff_iff.1 (countDown_isSome _)).trans grace,
    fun h => restore (countDown_ne_none h)⟩
  covered := id

theorem pending_works (l : List Instr) (s : State) : Works s { s with pending := l } := .of_view rfl rfl rfl

theorem tick_laws (s : State) : Laws s s.tick := by
  unfold State.tick
  split
  · exact (pending_works ..).laws
  · exact (counted_works s).laws

theorem step_laws (h : step s = .next t) : Laws s t := by
  unfold step at h
  split at h
  · cases h
    exact tick_laws s
  · next c rest _ =>
    exact Laws.trans_works (pending_works rest s) (exec_lawful c _ t h) rfl

/-- Settles O9: one of the laws every command keeps. -/
theorem settingsAndDutiesStayInRange : Obligations.SettingsAndDutiesStayInRange := fun _ _ hs h =>
  ⟨(step_laws h).settings hs, (step_laws h).cooling hs⟩

/-- Settles O10: one of the laws every command keeps. -/
theorem ledgerLawIsKept : Obligations.LedgerLawIsKept := fun _ _ h => ⟨(step_laws h).ledger, (step_laws h).shutdown⟩

end Sys2Proof.Power
end

section
/-! Port admin: the rows of a range taken one after the other (R100, R101), and the evaluation of one row with the
pool's and the ledger's answers (R82, R94, R95). -/

namespace Sys2Proof.Power
open Sys2Proof Sys2Proof.Machine

variable {s t u : State}

/-! ## What a row reads after each change of one -/

/-- A recompute changes the ledger, the agenda and what is reported. -/
theorem recompute_read {α : Type} (f : State → α) (s : State)
    (hf : ∀ l g a q c, f { s with ledger := l, agenda := g, alarms := a, queues := q, counts := c } = f s := by
      intros; rfl) : f s.recompute = f s := by
  obtain ⟨l, g, a, q, c, _, e⟩ := (recompute_accounts s).frame
  rw [e, hf]

theorem portCommand_rows (p : Port) (v : Bool) (s : State) : (s.portCommand p v).rows = s.rows := by
  unfold State.portCommand
  dsimp only
  split
  · exact enqueue_rows ..
  · rfl

theorem rowAt_portCommand (p q : Port) (v : Bool) (s : State) : (s.portCommand p v).rowAt q = s.rowAt q :=
  congrArg (fun r => look (look r q.slot) q.idx) (portCommand_rows p v s)

theorem rowAt_setCond (p q : Port) (c : RowCond) (s : State) :
    (s.setCond p c).rowAt q = if q = p then { s.rowAt p with cond := c } else s.rowAt q := rowAt_writeRow ..

theorem rowAt_setUnit (p q : Port) (x : UnitState) (s : State) :
    (s.setUnit p x).rowAt q = if q = p then { s.rowAt p with unit := x } else s.rowAt q := rowAt_writeRow ..

theorem rowAt_setAdmin (p q : Port) (v : Bool) (s : State) :
    (s.setAdmin p v).rowAt q = if q = p then { s.rowAt p with admin := v } else s.rowAt q := rowAt_writeRow ..

theorem rowAt_bringUp (p q : Port) (s : State) : (s.bringUp p).rowAt q =
    if q = p then { s.rowAt p with grant := true, cond := .enabling } else s.rowAt q := by
  have granted : ∀ q, (State.recompute (s.writeRow p { s.rowAt p with grant := true })).rowAt q =
      if q = p then { s.rowAt p with grant := true } else s.rowAt q := fun q =>
    (recompute_read (·.rowAt q) _).trans (rowAt_writeRow ..)
  refine (rowAt_portCommand ..).trans ((rowAt_setCond ..).trans ?_)
  rw [granted, granted, if_pos rfl]
  split <;> rfl

theorem rowAt_goDown (p q : Port) (r : DownReason) (s : State) : (s.goDown p r).rowAt q =
    if q = p then { s.rowAt p with cond := .down r, grant := false } else s.rowAt q :=
  (rowAt_portCommand ..).trans ((recompute_read (·.rowAt q) _).trans (rowAt_writeRow ..))

theorem rowAt_relabel (p q : Port) (s : State) (h : q ≠ p) : (s.relabel p).rowAt q = s.rowAt q := by
  unfold State.relabel
  split
  · rw [rowAt_setCond, if_neg h]
  · rfl

/-! ## One row evaluated (R94, R95) -/

/-- The unit a row takes before it asks for power (R82). -/
def withUnit (p : Port) (s : State) : State := if s.unitAnswer p = some true then s.setUnit p .assigned else s

theorem unitAnswer_eq (p : Port) (s : State) :
    ((s.rowAt p).cls ≠ .pool → s.unitAnswer p = none) ∧
    ((s.rowAt p).cls = .pool → (s.rowAt p).unit = .assigned → s.unitAnswer p = some false) ∧
    ((s.rowAt p).cls = .pool → (s.rowAt p).unit = .none →
      s.unitAnswer p = if s.unitsInUse < s.pool.capacity then some true else none) := by
  unfold State.unitAnswer
  refine ⟨fun h => ?_, fun h k => by simp only [h, k], fun h k => by simp only [h, k]⟩
  cases hc : (s.rowAt p).cls <;> simp_all

/-- The unit of a row that the pool answers. -/
theorem unit_of_unitAnswer {p : Port} {b : Bool} (h : s.unitAnswer p = some b) :
    (s.rowAt p).cls = .pool ∧ (s.rowAt p).unit = if b then .none else .assigned := by
  unfold State.unitAnswer at h
  dsimp only at h
  split at h
  · next hc hu =>
    cases h
    exact ⟨hc, hu⟩
  · next hc hu =>
    split at h
    · cases h
      exact ⟨hc, hu⟩
    · cases h
  · cases h

theorem evaluate_of_not_down {p : Port} (h : ∀ r, (s.rowAt p).cond ≠ .down r) : s.evaluate p = s := by
  unfold State.evaluate
  split
  · next r hr => exact absurd hr (h r)
  · rfl

theorem evaluate_of_fail {p : Port} {r₀ r : DownReason} (hd : (s.rowAt p).cond = .down r₀)
    (hf : s.firstFail p = some r) : s.evaluate p = s.setCond p (.down r) := by
  unfold State.evaluate
  rw [hd]
  dsimp only
  rw [hf]

theorem evaluate_unlicensed {p : Port} {r₀ : DownReason} (hd : (s.rowAt p).cond = .down r₀)
    (hf : s.firstFail p = none) (hc : (s.rowAt p).cls = .pool) (hu : s.unitAnswer p = none) :
    s.evaluate p = s.setCond p (.down .unlicensed) := by
  unfold State.evaluate
  rw [hd]
  dsimp only
  rw [hf]
  dsimp only
  rw [hc]
  dsimp only
  rw [hu]

/-- A row that no check and no pool stops asks for power. -/
theorem evaluate_asks {p : Port} {r₀ : DownReason} (hd : (s.rowAt p).cond = .down r₀) (hf : s.firstFail p = none)
    (hu : (s.rowAt p).cls ≠ .pool ∨ s.unitAnswer p ≠ none) :
    s.evaluate p = (withUnit p s).askPower p (decide (s.unitAnswer p = some true)) := by
  unfold State.evaluate withUnit
  rw [hd]
  dsimp only
  rw [hf]
  dsimp only
  split
  · next hc =>
    split
    · next k => exact absurd k (hu.resolve_left (not_not_intro hc))
    · next k => rw [if_pos k, decide_eq_true k]
    · next k =>
      have no : s.unitAnswer p ≠ some true := by rw [k]; decide
      rw [if_neg no, decide_eq_false no]
  · next hc =>
    have no : s.unitAnswer p ≠ some true := by rw [(unitAnswer_eq p s).1 hc]; decide
    rw [if_neg no, decide_eq_false no]

theorem writeRow_read {α : Type} (f : State → α) (p : Port) (r : Row) (s : State)
    (hf : ∀ s x w d a q c, f { s with
      rows := x, pool := { s.pool with waiting := w, deficit := d }, alarms := a, queues := q, counts := c } = f s := by
        intros; rfl) : f (s.writeRow p r) = f s := by
  obtain ⟨w, d, a, q, c, _, e⟩ := writeRow_waits p r s
  rw [e]
  exact hf s _ w d a q c

theorem grantAnswer_withUnit (p : Port) (s : State) : (withUnit p s).grantAnswer p false = s.grantAnswer p false := by
  unfold withUnit
  split
  · have ledger : (s.setUnit p .assigned).ledger = s.ledger := writeRow_ledger ..
    have phase : (s.setUnit p .assigned).starting = s.starting := writeRow_read (·.starting) ..
    have blade : (s.setUnit p .assigned).bladeOf p.slot = s.bladeOf p.slot := writeRow_read (·.bladeOf p.slot) ..
    unfold State.grantAnswer
    rw [ledger, phase, blade, rowAt_setUnit, if_pos rfl]
  · rfl

theorem grantAnswer_iff (hr : s.starting = false) (p : Port) : s.grantAnswer p false = true ↔
    look s.ledger.charged p.slot = true ∧ ((s.rowAt p).grant = true ∨
      (s.ledger.overcommit = .closed ∧ 0 ≤ s.ledger.headroom - ((s.bladeOf p.slot).allocation : Int))) := by
  unfold State.grantAnswer
  cases look s.ledger.charged p.slot <;> cases (s.rowAt p).grant <;> simp [hr]

theorem rowAt_withUnit (p q : Port) (s : State) : (withUnit p s).rowAt q =
    if q = p then { s.rowAt p with unit := if s.unitAnswer p = some true then .assigned else (s.rowAt p).unit }
    else s.rowAt q := by
  unfold withUnit
  split
  · exact rowAt_setUnit ..
  · split
    · next e => rw [e]
    · rfl

/-- A row that asks for power has its unit if its ports take one (R94). -/
theorem takenUnit_eq {p : Port} (h : (s.rowAt p).cls ≠ .pool ∨ s.unitAnswer p ≠ none) :
    (if s.unitAnswer p = some true then .assigned else (s.rowAt p).unit) =
      if (s.rowAt p).cls = .pool then .assigned else (s.rowAt p).unit := by
  cases k : s.unitAnswer p with
  | none => rw [if_neg nofun, if_neg (h.resolve_right (not_not_intro k))]
  | some b =>
    obtain ⟨cls, unit⟩ := unit_of_unitAnswer k
    rw [if_pos cls]
    cases b with
    | true => exact if_pos rfl
    | false => exact unit

theorem askPower_granted {p : Port} (h : s.grantAnswer p false = true) (b : Bool) :
    s.askPower p b = s.bringUp p := if_pos h

theorem askPower_refused {p : Port} (h : s.grantAnswer p false = false) (b : Bool) :
    s.askPower p b = State.setCond p (.down .noPower) (if b then s.setUnit p .none else s) :=
  if_neg (by rw [h]; decide)

/-- A row refused power is as it was, but for the reason. -/
theorem rowAt_asks_refused {p : Port} (h : s.grantAnswer p false = false) (q : Port) :
    (State.askPower p (decide (s.unitAnswer p = some true)) (withUnit p s)).rowAt q =
      if q = p then { s.rowAt p with cond := .down .noPower } else s.rowAt q := by
  rw [askPower_refused ((grantAnswer_withUnit p s).trans h), rowAt_setCond]
  have back : ∀ q, State.rowAt (if decide (s.unitAnswer p = some true) then (withUnit p s).setUnit p .none
      else withUnit p s) q = s.rowAt q := fun q => by
    by_cases k : s.unitAnswer p = some true
    · rw [if_pos (decide_eq_true k), rowAt_setUnit, rowAt_withUnit, rowAt_withUnit, if_pos rfl]
      split
      · next e =>
        have unit := (unit_of_unitAnswer k).2
        rw [e]
        exact congrArg (fun x => { s.rowAt p with unit := x }) unit.symm
      · rfl
    · rw [if_neg (by simpa using k), withUnit, if_neg k]
  rw [back, back]

theorem rowAt_asks_granted {p : Port} (h : s.grantAnswer p false = true) (q : Port) :
    (State.askPower p (decide (s.unitAnswer p = some true)) (withUnit p s)).rowAt q =
      if q = p then { s.rowAt p with
        unit := if s.unitAnswer p = some true then .assigned else (s.rowAt p).unit, grant := true, cond := .enabling }
      else s.rowAt q := by
  rw [askPower_granted ((grantAnswer_withUnit p s).trans h), rowAt_bringUp, rowAt_withUnit, rowAt_withUnit, if_pos rfl]
  split <;> rfl

/-- What the evaluation of a row can do. -/
theorem evaluate_cases (p : Port) (s : State) :
    ((∀ r, (s.rowAt p).cond ≠ .down r) ∧ s.evaluate p = s) ∨
    (∃ r, s.firstFail p = some r ∧ s.evaluate p = s.setCond p (.down r)) ∨
    s.evaluate p = s.setCond p (.down .unlicensed) ∨
    s.evaluate p = (withUnit p s).askPower p (decide (s.unitAnswer p = some true)) := by
  by_cases hd : ∃ r, (s.rowAt p).cond = .down r
  · obtain ⟨r₀, hd⟩ := hd
    cases hf : s.firstFail p with
    | some r => exact .inr (.inl ⟨r, rfl, evaluate_of_fail hd hf⟩)
    | none =>
      by_cases hu : (s.rowAt p).cls = .pool ∧ s.unitAnswer p = none
      · exact .inr (.inr (.inl (evaluate_unlicensed hd hf hu.1 hu.2)))
      · exact .inr (.inr (.inr (evaluate_asks hd hf (not_and_or.1 hu))))
  · have down := not_exists.1 hd
    exact .inl ⟨down, evaluate_of_not_down down⟩

theorem rowAt_evaluate_of_ne {p q : Port} (h : q ≠ p) (s : State) : (s.evaluate p).rowAt q = s.rowAt q := by
  obtain ⟨-, e⟩ | ⟨r, -, e⟩ | e | e := evaluate_cases p s <;> rw [e]
  · rw [rowAt_setCond, if_neg h]
  · rw [rowAt_setCond, if_neg h]
  · cases hg : s.grantAnswer p false with
    | true => rw [rowAt_asks_granted hg, if_neg h]
    | false => rw [rowAt_asks_refused hg, if_neg h]

/-! ## A command asked of the scheduler -/

theorem mem_joinQueue (x : Txn) (q : List Txn) : x ∈ joinQueue x q := by
  unfold joinQueue
  split
  · next h =>
    obtain ⟨y, hy, same⟩ := List.any_eq_true.1 h
    exact List.mem_map.2 ⟨y, hy, if_pos same⟩
  · exact List.mem_append_right q (List.mem_singleton.2 rfl)

theorem enqueue_asked (x : Txn) (s : State) : Asked s (s.enqueue x) x := by
  cases hb : s.bus.running with
  | none => exact (enqueue_mem s x).imp id fun h => ⟨hb, h⟩
  | some r =>
    have busy : s.enqueue x = { s with bus := { s.bus with waiting := joinQueue x s.bus.waiting } } :=
      if_pos (Option.isSome_of_eq_some hb)
    rw [busy]
    exact .inl (mem_joinQueue ..)

theorem asked_of_bus {x : Txn} (hb : t.bus = s.bus) (h : Asked t u x) : Asked s u x :=
  h.imp id fun ⟨free, started⟩ => ⟨(congrArg Bus.running hb).symm.trans free, started⟩

theorem portCommand_asked {p : Port} (v : Bool)
    (h : (s.slotAt p.slot).state = .powering ∨ (s.slotAt p.slot).state = .powered) :
    Asked s (s.portCommand p v) (.portCommand p v) := by
  have asks : s.portCommand p v = s.enqueue (.portCommand p v) := if_pos h
  rw [asks]
  exact enqueue_asked ..

theorem bringUp_asked {p : Port} (h : (s.slotAt p.slot).state = .powering ∨ (s.slotAt p.slot).state = .powered) :
    Asked s (s.bringUp p) (.portCommand p true) := by
  have slot : State.slotAt (State.setCond p .enabling
      (State.recompute (s.writeRow p { s.rowAt p with grant := true }))) p.slot = s.slotAt p.slot :=
    (writeRow_read (·.slotAt p.slot) ..).trans
      ((recompute_read (·.slotAt p.slot) _).trans (writeRow_read (·.slotAt p.slot) ..))
  have bus : State.bus (State.setCond p .enabling
      (State.recompute (s.writeRow p { s.rowAt p with grant := true }))) = s.bus :=
    (writeRow_bus ..).trans ((recompute_read (·.bus) _).trans (writeRow_bus ..))
  have asked := portCommand_asked (s := State.setCond p .enabling
    (State.recompute (s.writeRow p { s.rowAt p with grant := true }))) true (by rw [slot]; exact h)
  exact asked_of_bus bus asked

theorem evaluate_asked {p : Port} (hg : s.grantAnswer p false = true)
    (he : s.evaluate p = (withUnit p s).askPower p (decide (s.unitAnswer p = some true)))
    (h : (s.slotAt p.slot).state = .powering ∨ (s.slotAt p.slot).state = .powered) :
    Asked s (s.evaluate p) (.portCommand p true) := by
  have read : (withUnit p s).slotAt p.slot = s.slotAt p.slot ∧ (withUnit p s).bus = s.bus := by
    unfold withUnit
    split
    · exact ⟨writeRow_read (·.slotAt p.slot) .., writeRow_bus ..⟩
    · exact ⟨rfl, rfl⟩
  rw [he, askPower_granted ((grantAnswer_withUnit p s).trans hg)]
  have asked := bringUp_asked (s := withUnit p s) (p := p) (by rw [read.1]; exact h)
  exact asked_of_bus read.2 asked

/-! ## The rows of a range (R100, R101) -/

/-- A row taken: it has the admin state, and no other row changes. -/
structure Takes (v : Bool) (p : Port) (s t : State) : Prop where
  others : ∀ q, q ≠ p → t.rowAt q = s.rowAt q
  lasting : t.lasting = State.lasting { s with
    rows := put s.rows p.slot (put (look s.rows p.slot) p.idx { s.rowAt p with admin := v }) }

theorem enableRow_takes (p : Port) (s : State) : Takes true p s (s.enableRow p) where
  others _ h := (rowAt_evaluate_of_ne h _).trans ((rowAt_setAdmin ..).trans (if_neg h))
  lasting := (lasting_evaluate (s.setAdmin p true) p).trans (writeRow_serves_put ..).lasting

theorem disableRow_takes (p : Port) (s : State) : Takes false p s (s.disableRow p) where
  others q h := by
    have admin : (s.setAdmin p false).rowAt q = s.rowAt q := (rowAt_setAdmin ..).trans (if_neg h)
    unfold State.disableRow
    dsimp only
    split
    · exact (rowAt_goDown ..).trans ((if_neg h).trans admin)
    · exact (rowAt_relabel p q _ h).trans admin
  lasting := by
    have admin := (writeRow_serves_put p { s.rowAt p with admin := false } s).lasting
    unfold State.disableRow
    dsimp only
    split
    · exact (lasting_goDown ..).trans admin
    · exact (lasting_relabel ..).trans admin

theorem enableRow_report (p : Port) (s : State) : ((s.enableRow p).rowAt p).cond ≠ .down .adminDown := by
  have enabled : ((s.setAdmin p true).rowAt p).admin = true := by rw [rowAt_setAdmin, if_pos rfl]
  show ((State.evaluate p (s.setAdmin p true)).rowAt p).cond ≠ _
  obtain ⟨h, e⟩ | ⟨r, hr, e⟩ | e | e := evaluate_cases p (s.setAdmin p true) <;> rw [e]
  · exact h _
  · rw [rowAt_setCond, if_pos rfl]
    rintro ⟨⟩
    unfold State.firstFail at hr
    rw [enabled] at hr
    split at hr
    · cases hr
    · split at hr <;> simp_all
  · rw [rowAt_setCond, if_pos rfl]
    exact nofun
  · cases hg : (s.setAdmin p true).grantAnswer p false with
    | true =>
      rw [rowAt_asks_granted hg, if_pos rfl]
      exact nofun
    | false =>
      rw [rowAt_asks_refused hg, if_pos rfl]
      exact nofun

theorem disableRow_report (p : Port) (s : State) : RowCond.live ((s.disableRow p).rowAt p).cond = false := by
  unfold State.disableRow
  dsimp only
  split
  · rw [rowAt_goDown, if_pos rfl]
    rfl
  · next h =>
    have dead := Bool.not_eq_true _ ▸ h
    obtain e | ⟨-, r, e⟩ := relabel_rowAt (s.setAdmin p false) p p <;> rw [e]
    · exact dead
    · rfl

theorem takeRows_reports {f : Port → State → State} {P : RowCond → Prop} (hf : ∀ p t, P ((f p t).rowAt p).cond)
    (ps : List Port) (s : State) : ∀ r ∈ (State.takeRows f ps s).2, P r.cond := by
  induction ps generalizing s with
  | nil => exact fun _ h => absurd h List.not_mem_nil
  | cons p ps ih => exact List.forall_mem_cons.2 ⟨hf p s, ih _⟩

theorem takeRows_global (f : Port → State → State) (ps : List Port) (s : State) :
    (State.takeRows f ps s).2.map (·.global) = ps.map Port.global := by
  induction ps generalizing s with
  | nil => rfl
  | cons p ps ih => exact congrArg _ (ih _)

theorem takeRows_state (f : Port → State → State) (ps : List Port) (s : State) :
    (State.takeRows f ps s).1 = ps.foldl (fun t p => f p t) s := by
  induction ps generalizing s with
  | nil => rfl
  | cons p ps ih => exact ih _

/-- The port table with the admin states given. -/
def adminRows (a : Port → Bool) (s : State) : Vector (Vector Row 48) 8 :=
  Vector.ofFn fun sl => Vector.ofFn fun k => { s.rowAt ⟨sl, k⟩ with admin := a ⟨sl, k⟩ }

theorem look_adminRows (a : Port → Bool) (p : Port) (s : State) :
    look (look (adminRows a s) p.slot) p.idx = { s.rowAt p with admin := a p } := by
  simp [adminRows]

/-- What lasts of a port table is what lasts of its rows. -/
theorem lasting_rows {a b : Vector (Vector Row 48) 8} (h : ∀ p : Port,
    (look (look a p.slot) p.idx).lasting = (look (look b p.slot) p.idx).lasting) :
    State.lasting { s with rows := a } = State.lasting { s with rows := b } :=
  congrArg (fun r => { s.lasting with rows := r })
    ((map_eq_iff ..).2 fun sl => (map_eq_iff ..).2 fun k => h ⟨sl, k⟩)

theorem rowAt_lasting (p : Port) (s : State) : s.lasting.rowAt p = (s.rowAt p).lasting := by
  simp [State.rowAt, State.lasting]

theorem Takes.row {v : Bool} {p : Port} (h : Takes v p s t) :
    (t.rowAt p).lasting = Row.lasting { s.rowAt p with admin := v } := by
  have same := congrArg (·.rowAt p) h.lasting
  simp only [rowAt_lasting, rowAt_put, if_pos] at same
  exact same

/-- Two states that have all but the rows in common still do with the same rows. -/
theorem lasting_withRows {a : Vector (Vector Row 48) 8} (b : Vector (Vector Row 48) 8)
    (h : t.lasting = State.lasting { s with rows := a }) :
    State.lasting { t with rows := b } = State.lasting { s with rows := b } :=
  congrArg (fun x : State => { x with rows := b.map (Vector.map Row.lasting) }) h

/-- Rows taken one after the other have their admin states in what lasts, and the other rows theirs. -/
theorem takes_foldl {v : Port → Bool} {f : State → Port → State} (hf : ∀ p t, Takes (v p) p t (f t p))
    {ps : List Port} (hn : ps.Nodup) (s : State) : (ps.foldl f s).lasting = State.lasting { s with
      rows := adminRows (fun p => if p ∈ ps then v p else (s.rowAt p).admin) s } := by
  induction ps generalizing s with
  | nil =>
    refine lasting_rows (s := s) fun p => ?_
    rw [look_adminRows]
    rfl
  | cons p ps ih =>
    obtain ⟨new, hn⟩ := List.nodup_cons.1 hn
    refine (ih hn (f s p)).trans ((lasting_withRows _ (hf p s).lasting).trans (lasting_rows fun q => ?_))
    rw [look_adminRows, look_adminRows]
    by_cases e : q = p
    · subst e
      rw [if_neg new, if_pos List.mem_cons_self]
      exact (hf q s).row
    · rw [(hf p s).others q e]
      simp [e]

/-! ## The ports of a range -/

theorem portOfGlobal_eq_some {n : Nat} {p : Port} : portOfGlobal n = some p ↔ Port.global p = n := by
  obtain ⟨⟨a, ha⟩, ⟨b, hb⟩⟩ := p
  unfold portOfGlobal Port.global
  split
  · simp only [Option.some.injEq, Port.mk.injEq, Fin.mk.injEq]
    omega
  · simp only [reduceCtorEq, false_iff]
    omega

theorem mem_portRange {first last : Nat} {p : Port} :
    p ∈ portRange first last ↔ first ≤ Port.global p ∧ Port.global p ≤ last := by
  simp only [portRange, List.mem_filterMap, List.mem_range, portOfGlobal_eq_some]
  exact ⟨fun ⟨k, hk, e⟩ => by omega, fun h => ⟨Port.global p - first, by omega, by omega⟩⟩

theorem portRange_global {first last : Nat} (h : last ≤ 383) :
    (portRange first last).map Port.global = List.range' first (last + 1 - first) := by
  have each : ∀ k ∈ List.range (last + 1 - first), (portOfGlobal (first + k)).map Port.global = some (first + k) :=
    fun k hk => by
      have lt : first + k < 384 := by
        have := List.mem_range.1 hk
        omega
      have some : portOfGlobal (first + k) = some ⟨⟨(first + k) / 48, by omega⟩, ⟨(first + k) % 48, by omega⟩⟩ :=
        dif_pos lt
      rw [some]
      exact congrArg Option.some (portOfGlobal_eq_some.1 some)
  rw [portRange, List.map_filterMap, List.filterMap_congr each, List.range'_eq_map_range]
  exact congrFun (List.filterMap_eq_map (f := (first + ·))) _

theorem portRange_nodup {first last : Nat} (h : last ≤ 383) : (portRange first last).Nodup :=
  .of_map Port.global (portRange_global h ▸ List.nodup_range')

theorem mem_allPorts (p : Port) : p ∈ allPorts :=
  List.mem_flatMap.2 ⟨p.slot, mem_allFin _, List.mem_map.2 ⟨p.idx, mem_allFin _, rfl⟩⟩

/-! ## ENABLE PORTS and DISABLE PORTS -/

/-- A range outside the port table is refused. -/
theorem adminPorts_invalid {h : Header} {first last : Nat} {v : Bool} {f : Port → State → State}
    (hr : 383 < last ∨ last < first) (hp : s.Passes .configure h) (ha : s.agenda = []) :
    (s.request .configure false h (State.adminPorts h first last v f)).settle = s.answered h .invalid .none := by
  have refused : s.adminPorts h first last v f = s.answered h .invalid .none := if_pos hr
  rw [request_of_passes hp, refused]
  exact settle_of_quiet _ ha

/-- A range of the port table: its rows are taken and reported in turn. -/
theorem adminPorts_lasting {v : Bool} {f : Port → State → State} (hf : ∀ p t, Takes v p t (f p t)) (h : Header)
    {first last : Nat} (hl : last ≤ 383) (hfl : first ≤ last) (s : State) :
    State.lasting (s.adminPorts h first last v f) = State.lasting (({ s with
      rows := adminRows (fun p => if first ≤ Port.global p ∧ Port.global p ≤ last then v else (s.rowAt p).admin) s
      store := { s.store with
        dirty := if allPorts.any (fun p => decide (first ≤ Port.global p) && decide (Port.global p ≤ last) &&
            decide ((s.rowAt p).admin ≠ v)) then put s.store.dirty 0 true else s.store.dirty } } : State).answered h .ok
      (.rows (State.takeRows f (portRange first last) s).2)) := by
  have taken := takes_foldl (f := fun t p => f p t) hf (portRange_nodup (first := first) hl) s
  have changed : ((portRange first last).any fun p => (s.rowAt p).admin ≠ v) =
      allPorts.any (fun p => decide (first ≤ Port.global p) && decide (Port.global p ≤ last) &&
        decide ((s.rowAt p).admin ≠ v)) := by
    rw [Bool.eq_iff_iff, List.any_eq_true, List.any_eq_true]
    simp only [Bool.and_eq_true, decide_eq_true_eq, mem_portRange, mem_allPorts, true_and]
  simp only [mem_portRange, ← takeRows_state] at taken
  have run : s.adminPorts h first last v f = State.answered
      (if (portRange first last).any fun p => (s.rowAt p).admin ≠ v then
        (State.takeRows f (portRange first last) s).1.markDirty .config
      else (State.takeRows f (portRange first last) s).1) h .ok
        (.rows (State.takeRows f (portRange first last) s).2) :=
    if_neg (by omega)
  rw [run, changed]
  refine answered_lasting h _ _ ?_
  generalize allPorts.any _ = dirty
  cases dirty with
  | true => exact congrArg (State.markDirty .config) taken
  | false => exact taken

theorem exec_adminPorts {h : Header} {first last : Nat} (v : Bool) (hp : s.Passes .configure h) :
    exec (if v then .enablePorts h first last else .disablePorts h first last) s =
      .next (State.settle (s.adminPorts h first last v (if v then State.enableRow else State.disableRow))) := by
  cases v <;> exact congrArg (fun x => Host.Outcome.next (State.settle x)) (request_of_passes hp ..)

/-- Settles O43, from the rows taken in turn and the cases of a row's evaluation. -/
theorem portAdminTakesEveryRow : Obligations.PortAdminTakesEveryRow := by
  intro s h first last hp ha
  have takes : ∀ (v : Bool) p t, Takes v p t ((if v then State.enableRow else State.disableRow) p t) := fun v => by
    cases v with
    | true => exact enableRow_takes
    | false => exact disableRow_takes
  refine ⟨fun hr => ⟨congrArg _ (adminPorts_invalid hr hp ha), congrArg _ (adminPorts_invalid hr hp ha)⟩,
    fun hl hfl v i hi => ?_, fun p => ?_, fun p => unitAnswer_eq p s, grantAnswer_iff (passes_running hp), ?_⟩
  · refine ⟨_, (State.takeRows (if v then State.enableRow else State.disableRow) (portRange first last) s).2,
      hi ▸ exec_adminPorts v hp, (takeRows_global ..).trans (portRange_global hl), ?_, ?_, ?_⟩
    · rintro rfl
      exact takeRows_reports (P := fun c => c ≠ .down .adminDown) enableRow_report _ _
    · rintro rfl
      exact takeRows_reports (P := fun c => RowCond.live c = false) disableRow_report _ _
    · exact (lasting_settle _).trans (adminPorts_lasting (takes v) h hl hfl s)
  · unfold State.firstFail
    cases (s.auxAt p.slot).powered <;> cases (s.rowAt p).admin <;> cases (s.auxAt p.slot).admits <;> rfl
  · rintro p _ rfl
    refine ⟨fun q hq => rowAt_evaluate_of_ne hq s, evaluate_of_not_down, fun r₀ hd => ⟨fun r hr => ?_, fun hf => ⟨?_, ?_⟩⟩⟩
    · rw [evaluate_of_fail hd hr, rowAt_setCond, if_pos rfl]
    · intro hc hu
      rw [evaluate_unlicensed hd hf hc hu, rowAt_setCond, if_pos rfl]
    · intro hu
      have asks := evaluate_asks hd hf hu
      refine ⟨fun hg => ?_, fun hg => ⟨?_, evaluate_asked hg asks⟩⟩
      · rw [asks, rowAt_asks_refused hg, if_pos rfl]
      · rw [asks, rowAt_asks_granted hg, if_pos rfl, takenUnit_eq hu]

end Sys2Proof.Power
end

section
/-! The load of a section reaches its blocks, or leaves the defaults (R39, R76, R91, R105, R124, R139, R181). -/

namespace Sys2Proof.Power
open Sys2Proof Sys2Proof.Machine

variable {s t u : State}

/-! ## A section that fails (R181) -/

/-- The store with a section marked failed, faulty and dirty. -/
def Store.failed (k : Store) (x : StoreSection) : Store :=
  { k with
    loaded := put k.loaded (StoreSection.idx x) .failed
    fault := put k.fault (StoreSection.idx x) true
    dirty := put k.dirty (StoreSection.idx x) true }

theorem failSection_reports (x : StoreSection) (s : State) :
    Reports { s with store := Store.failed s.store x } (s.failSection x) := by
  have failed := handStoreFault_reports (((s.setLoaded x .failed).setFault x true).markDirty x)
  exact .ite (fun _ => (failed.trans (bump_reports ..)).trans (bump_reports ..)) fun _ => failed

theorem loadSection_of_missing {x : StoreSection} {good : Bool} (h : good = false ∨
    (x = .config ∧ s.store.config = none) ∨ (x = .licences ∧ s.store.licences = none) ∨
    (x = .zoning ∧ s.store.zoning = none)) : s.loadSection x good = s.failSection x := by
  unfold State.loadSection
  obtain rfl | ⟨rfl, h⟩ | ⟨rfl, h⟩ | ⟨rfl, h⟩ := h
  · rfl
  all_goals
    dsimp only
    rw [h]
    cases good <;> rfl

theorem settle_failSection {x : StoreSection} (h : s.agenda = []) :
    (s.failSection x).settle = s.failSection x :=
  settle_of_quiet _ ((failSection_reports x s).read (·.agenda) |>.trans h)

/-! ## CONFIG (R39, R105) -/

theorem look_foldl_put {α : Type} {n : Nat} (g : Fin n → α → α) {l : List (Fin n)} (hn : l.Nodup) (v : Vector α n)
    (j : Fin n) : look (l.foldl (fun v i => put v i (g i (look v i))) v) j =
      if j ∈ l then g j (look v j) else look v j := by
  induction l generalizing v with
  | nil => simp
  | cons i l ih =>
    obtain ⟨new, hn⟩ := List.nodup_cons.1 hn
    rw [List.foldl_cons, ih hn, look_put]
    by_cases e : j = i
    · subst e
      simp [new]
    · simp [e]

/-- The entries of the SLOT table written one after the other. -/
theorem setSlots_reports (g : Slot → SlotEntry → SlotEntry) (l : List Slot) (s : State) :
    Reports { s with slots := l.foldl (fun v i => put v i (g i (look v i))) s.slots }
      (l.foldl (fun t i => t.setSlot i (g i (t.slotAt i))) s) := by
  induction l generalizing s with
  | nil => exact .refl s
  | cons i l ih =>
    refine Reports.trans ?_ (ih (s.setSlot i (g i (s.slotAt i))))
    rw [setSlot_slots]
    obtain ⟨a, q, c, hq, e⟩ := setSlot_reports i (g i (s.slotAt i)) s
    rw [e]
    exact ⟨a, q, c, hq, rfl⟩

theorem loadAdmin_takes (a : Vector (Vector Bool 48) 8) (p : Port) (s : State) :
    Takes (look (look a p.slot) p.idx) p s (s.loadAdmin a p) where
  others q h := by
    unfold State.loadAdmin
    dsimp only
    split
    · rfl
    · exact (rowAt_relabel p q _ h).trans ((rowAt_writeRow ..).trans (if_neg h))
  lasting := by
    unfold State.loadAdmin
    dsimp only
    split
    · next e =>
      rw [← e]
      exact (lasting_putRow rfl).symm
    · exact (lasting_relabel ..).trans (writeRow_serves_put ..).lasting

theorem allPorts_nodup : allPorts.Nodup := by
  have ports : ∀ sl, (slotPorts sl).Nodup := fun sl =>
    (List.nodup_finRange 48).map fun _ _ e => (Port.mk.inj e).2
  refine List.nodup_flatMap.2 ⟨fun sl _ => ports sl, (List.nodup_finRange 8).imp fun ne => ?_⟩
  refine List.disjoint_left.2 fun p hp hq => ?_
  obtain ⟨i, -, rfl⟩ := List.mem_map.1 hp
  obtain ⟨j, -, e⟩ := List.mem_map.1 hq
  exact ne (Port.mk.inj e).1.symm

/-- An entry with its auto-power flag loaded. -/
def withAutoPower (v : Vector Bool 8) (i : Slot) (e : SlotEntry) : SlotEntry := { e with autoPower := look v i }

/-- The CONFIG content given to its blocks: settings, auto-power flags and admin states. -/
def configured (c : ConfigImage) (s : State) : State :=
  { s with
    settings := c.settings
    slots := Vector.ofFn fun i => withAutoPower c.autoPower i (s.slotAt i)
    rows := adminRows (fun p => look (look c.admin p.slot) p.idx) s }

theorem foldl_withAutoPower (v : Vector Bool 8) (w : Vector SlotEntry 8) :
    allSlots.foldl (fun w i => put w i (withAutoPower v i (look w i))) w =
      Vector.ofFn fun i => withAutoPower v i (look w i) := look_ext fun i => by
  rw [look_foldl_put (l := allSlots) (withAutoPower v) (List.nodup_finRange 8), look_ofFn]
  exact if_pos (mem_allFin i)

theorem applyConfig_lasting (c : ConfigImage) (s : State) :
    State.lasting (s.applyConfig c) = State.lasting (configured c s) := by
  unfold State.applyConfig
  extract_lets curve low t₀ t₁ t₂ t₃
  have flags : Reports _ t₁ := setSlots_reports (withAutoPower c.autoPower) allSlots t₀
  have admin : t₂.lasting = _ := takes_foldl (loadAdmin_takes c.admin) allPorts_nodup t₁
  simp only [mem_allPorts, if_true] at admin
  rw [foldl_withAutoPower] at flags
  clear_value t₂ t₁
  have sensorless : t₃.lasting = t₂.lasting := by
    show State.lasting (if _ then t₂ else t₂.deriveSensorless) = _
    split
    · rfl
    · exact lasting_deriveSensorless t₂
  have raised : State.lasting (if low < t₃.settings.trayMin then t₃.raiseBoth else t₃) = t₃.lasting := by
    split
    · exact lasting_raiseBoth t₃
    · rfl
  have rows : adminRows (fun p => look (look c.admin p.slot) p.idx) t₁ =
      adminRows (fun p => look (look c.admin p.slot) p.idx) s :=
    congrArg (fun r => adminRows (fun p => look (look c.admin p.slot) p.idx) { s with rows := r }) (flags.read (·.rows))
  rw [rows] at admin
  have frame := lasting_withRows (s := configured c s) (a := s.rows)
    (adminRows (fun p => look (look c.admin p.slot) p.idx) s) flags.serves.lasting
  exact (raised.trans sensorless).trans (admin.trans frame)

/-! ## LICENCES (R76, R91) -/

/-- Work of the pool on units: it changes rows, none's admin state or class, and beside them only what notices may
change. -/
structure Reclaims (s t : State) : Prop where
  lasting : State.lasting { t with rows := s.rows } = s.lasting
  rows : ∀ p, (t.rowAt p).admin = (s.rowAt p).admin ∧ (t.rowAt p).cls = (s.rowAt p).cls

theorem Reclaims.refl (s : State) : Reclaims s s := ⟨rfl, fun _ => ⟨rfl, rfl⟩⟩

theorem Reclaims.trans (h : Reclaims s t) (k : Reclaims t u) : Reclaims s u where
  lasting := (lasting_withRows (s := t) (a := t.rows) s.rows k.lasting).trans h.lasting
  rows p := ⟨(k.rows p).1.trans (h.rows p).1, (k.rows p).2.trans (h.rows p).2⟩

theorem Reclaims.after (k : Reclaims t u) (h : Reclaims s t) : Reclaims s u := h.trans k

/-- Work that keeps all that lasts. -/
theorem reclaims_of_lasting (h : t.lasting = s.lasting) : Reclaims s t where
  lasting := lasting_withRows (s := s) (a := s.rows) s.rows h
  rows p := by
    have row : (t.rowAt p).lasting = (s.rowAt p).lasting := by rw [← rowAt_lasting, ← rowAt_lasting, h]
    exact ⟨(congrArg Row.admin row :), (congrArg Row.cls row :)⟩

theorem writeRow_reclaims {p : Port} {r : Row} (ha : r.admin = (s.rowAt p).admin) (hc : r.cls = (s.rowAt p).cls) :
    Reclaims s (s.writeRow p r) where
  lasting := lasting_withRows (s := s) s.rows (writeRow_serves_put p r s).lasting
  rows q := by
    rw [rowAt_writeRow]
    split
    · next e => exact e ▸ ⟨ha, hc⟩
    · exact ⟨rfl, rfl⟩

theorem reclaimOne_reclaims (p : Port) (tier : Nat) (out : List Port) (s : State) :
    Reclaims s (s.reclaimOne p tier out) := by
  have told : Reclaims s (s.report .unitReclaimed (u16 (Port.global p)) (u16 tier) (u16 (s.unitsInUse - 1))) :=
    reclaims_of_lasting (lasting_report ..)
  unfold State.reclaimOne
  dsimp only
  split
  · exact .after (reclaims_of_lasting ((serveBut_serves ..).after ((portCommand_serves ..).after
      (recompute_serves _))).lasting) (told.trans (writeRow_reclaims rfl rfl))
  · exact .after (reclaims_of_lasting (stopParkIfEmpty_serves ..).lasting) (told.trans (writeRow_reclaims rfl rfl))

theorem reclaim_reclaims (n : Nat) (out : List Port) (s : State) : Reclaims s (s.reclaim n out) := by
  induction n generalizing s out with
  | zero => exact .refl s
  | succ n ih =>
    rw [State.reclaim]
    split
    · exact .refl s
    · exact (reclaimOne_reclaims ..).trans (ih ..)

theorem capacityEffect_reclaims (old : Nat) (s : State) : Reclaims s (s.capacityEffect old) := by
  unfold State.capacityEffect
  split
  · exact reclaim_reclaims ..
  · split
    · exact reclaims_of_lasting (lasting_availability s)
    · exact .refl s

/-- The pool with a loaded table: capacity and EXPIRING are derived from it. -/
def licensed (l : List LicenceRec) (x : Pool) : Pool :=
  { x with table := l, capacity := capacityFrom l, expiring := expiringFrom l }

theorem applyLicences_reclaims (l : List LicenceRec) (s : State) :
    Reclaims { s with pool := licensed (l.map loadRecord) s.pool } (s.applyLicences l) := by
  unfold State.applyLicences
  extract_lets old pool t₀ t₁
  have counted : Reports t₀ t₁ := .ite (fun _ => .refl t₀) fun _ => bump_reports ..
  have expiring : ∀ t : State, Reports { t with pool := { t.pool with expiring := expiringFrom t.pool.table } }
      t.evalExpiring := fun _ => .ite (fun _ => .refl _) fun _ => condition_reports ..
  refine .after (capacityEffect_reclaims ..) (reclaims_of_lasting ((expiring _).serves.lasting.trans ?_))
  clear_value t₁
  obtain ⟨a, q, c, hq, rfl⟩ := counted
  exact lasting_queues (s := { s with pool := licensed (l.map loadRecord) s.pool }) hq

theorem loadRecord_eq (r : LicenceRec) :
    loadRecord r = { r with expired := r.fields.kind = 2 ∧ r.fields.minutes = 0 } := by
  unfold loadRecord LicenceRec.isTrial
  simp

/-! ## ZONING (R124, R139) -/

/-- The ZONING content given to the engine. -/
def zoned (z : ZoningImage) (x : Zoning) : Zoning :=
  { x with defined := z.db, active := z.db.effective, activeGen := z.gen, commitGen := z.gen }

theorem applyZoning_lasting (z : ZoningImage) (s : State) :
    State.lasting (s.bumpDefined.applyZoning z) = State.lasting { s with zoning := zoned z s.zoning } := by
  unfold State.applyZoning
  extract_lets content changed old t₀ t₁
  have defined : Reports { s with zoning := zoned z s.zoning } t₀ := ⟨_, _, _, rfl, rfl⟩
  have counted : Reports t₀ t₁ := .ite (fun _ => bump_reports ..) fun _ => .refl t₀
  exact (judgeAllKept_serves t₁).lasting.trans (defined.trans counted).serves.lasting

/-- Settles O21, section by section. -/
theorem sectionLoadsReachTheirBlocks : Obligations.SectionLoadsReachTheirBlocks := by
  intro s x good hs hx
  have run : exec (.sectionLoadComplete x good) s = .next (s.loadSection x good).settle :=
    congrArg Host.Outcome.next (if_pos ⟨by simpa [State.starting] using hs, hx⟩)
  refine ⟨_, run, fun ha hm => ?_, ?_, ?_, ?_⟩
  · rw [loadSection_of_missing hm, settle_failSection ha]
    obtain ⟨a, q, c, -, e⟩ := failSection_reports x s
    rw [e]
    exact ⟨rfl, rfl⟩
  · rintro c rfl rfl hc
    have load : s.loadSection .config true = (s.setLoaded .config .good).applyConfig c := by
      simp [State.loadSection, hc]
    rw [load]
    exact (lasting_settle _).trans (applyConfig_lasting c _)
  · rintro l rfl rfl hl
    have load : s.loadSection .licences true = (s.setLoaded .licences .good).applyLicences l := by
      simp [State.loadSection, hl]
    rw [load]
    have done := (applyLicences_reclaims l (s.setLoaded .licences .good)).trans
      (reclaims_of_lasting (lasting_settle _))
    generalize State.settle (State.applyLicences l (s.setLoaded .licences .good)) = t at done ⊢
    have table : t.pool.table = l.map loadRecord := read_lasting (·.pool.table) done.lasting
    have capacity : t.pool.capacity = capacityFrom (l.map loadRecord) := read_lasting (·.pool.capacity) done.lasting
    have expiring : t.pool.expiring = expiringFrom (l.map loadRecord) := read_lasting (·.pool.expiring) done.lasting
    refine ⟨?_, by rw [capacity, table], by rw [expiring, table], done.rows⟩
    simp only [capacity, expiring, ← loadRecord_eq]
    exact done.lasting
  · rintro z rfl rfl hz
    have load : s.loadSection .zoning true = ((s.setLoaded .zoning .good).bumpDefined).applyZoning z := by
      simp [State.loadSection, hz]
    rw [load]
    exact (lasting_settle _).trans (applyZoning_lasting z (s.setLoaded .zoning .good))

end Sys2Proof.Power
end

section
/-! Raises, updates and holds at the cooling controller, field by field: what they write of duties and zones, and that
they change nothing else but counts (R56 to R60, R66, R67, R153, R157). -/

namespace Sys2Proof.Power
open Sys2Proof Sys2Proof.Machine

variable {s t u : State}

/-! ## Duties written, exactly -/

/-- Reports without an alarm or an event: change counts only. -/
theorem Reports.counted (h : Reports s t) (ha : t.alarms = s.alarms) (hq : t.queues = s.queues) :
    ∃ c, t = { s with counts := c } := by
  obtain ⟨a, q, c, -, rfl⟩ := h
  cases ha
  cases hq
  exact ⟨c, rfl⟩

theorem foldl_setDuty_read {α : Type} (f : State → α) (hf : ∀ t tr d, f (State.setDuty tr d t) = f t)
    (g : Nat → Nat) (l : List Tray) (s : State) :
    f (l.foldl (fun t tr => t.setDuty tr (g (t.trayAt tr).duty)) s) = f s := by
  induction l generalizing s with
  | nil => rfl
  | cons x l ih => exact (ih _).trans (hf ..)

theorem foldl_setDuty_counted (g : Nat → Nat) {l : List Tray} (hl : l.Nodup) (s : State) :
    ∃ c, l.foldl (fun t tr => t.setDuty tr (g (t.trayAt tr).duty)) s = { withDuties l g s with counts := c } :=
  (foldl_setDuty_reports g hl s).counted
    (foldl_setDuty_read (·.alarms) (fun _ _ _ => setTray_alarms ..) g l s)
    (foldl_setDuty_read (·.queues) (fun _ _ _ => setTray_queues ..) g l s)

/-! ## The update of a zone (R56 to R59) -/

theorem updateZone_counted (z : AirZone) (s : State) : ∃ c, s.updateZone z =
    { withDuties (traysOf z) (nextDuty (s.targetFor z (nextDemandOf z s)))
      (s.setZone z { s.zoneAt z with
        demand := nextDemandOf z s
        target := s.targetFor z (nextDemandOf z s)
        updateTimer := some Config.updateMs }) with counts := c } :=
  foldl_setDuty_counted _ (nodup_traysOf z) _

theorem zoneAt_updateZone (z y : AirZone) (s : State) : (s.updateZone z).zoneAt y =
    if y = z then { s.zoneAt z with
      demand := nextDemandOf z s
      target := s.targetFor z (nextDemandOf z s)
      updateTimer := some Config.updateMs }
    else s.zoneAt y := by
  obtain ⟨c, e⟩ := updateZone_counted z s
  rw [e]
  exact zoneAt_setZone z y _ s

theorem trayAt_updateZone (z : AirZone) (tr : Tray) (s : State) : (s.updateZone z).trayAt tr =
    if tr ∈ traysOf z then { s.trayAt tr with
      duty := nextDuty (s.targetFor z (nextDemandOf z s)) (s.trayAt tr).duty }
    else s.trayAt tr := by
  obtain ⟨c, e⟩ := updateZone_counted z s
  rw [e]
  exact trayAt_withDuties (traysOf z) _ (s.setZone z _) tr

/-- Settles O39: an update is its zone's registers and its trays written, and change counts. -/
theorem updateMovesTheZone : Obligations.UpdateMovesTheZone := by
  rintro s z running up down demand target rfl rfl hd ht
  have hd : demand = nextDemandOf z s := hd
  have ht : target = s.targetFor z demand := ht
  subst hd ht
  have run : exec (.updateTimerExpiry z) s = .next (s.updateZone z) :=
    congrArg Host.Outcome.next (if_pos (Option.isSome_iff_ne_none.2 running))
  refine ⟨_, run, (zoneAt_updateZone ..).trans (if_pos rfl),
    fun y hy => (zoneAt_updateZone ..).trans (if_neg hy), ?_, ?_,
    fun tr h => (trayAt_updateZone ..).trans (if_pos (mem_traysOf.2 h)),
    fun tr h => (trayAt_updateZone ..).trans (if_neg fun k => h (mem_traysOf.1 k)), ?_⟩
  all_goals
    obtain ⟨c, e⟩ := updateZone_counted z s
    rw [e]
    rfl

/-! ## Raises (R60) -/

/-- The target a raise brings a zone's trays to. -/
def aimOf (s : State) (z : AirZone) : Nat := s.targetFor z (s.zoneAt z).demand

/-- A target for one zone, none for the other. -/
def aimAt (z : AirZone) (d : Nat) (y : AirZone) : Nat := if y = z then d else 0

/-- The trays below their zone's target in `d` are lifted to it, and a zone takes its target when that lifts some
tray; nothing else changes but counts. -/
structure Lifts (d : AirZone → Nat) (s t : State) : Prop where
  tray : ∀ tr, t.trayAt tr = { s.trayAt tr with duty := max (s.trayAt tr).duty (d (zoneOfTray tr)) }
  zone : ∀ z, t.zoneAt z = { s.zoneAt z with
    target := if (traysOf z).any fun tr => (s.trayAt tr).duty < d z then d z else (s.zoneAt z).target }
  frame : ∃ v w c, t = { s with trays := v, cooling := { s.cooling with zones := w }, counts := c }

/-- A value of a state that reads neither trays, airflow zones nor counts. -/
theorem Lifts.read {α : Type} {d : AirZone → Nat} (f : State → α) (h : Lifts d s t)
    (hf : ∀ s v w c, f { s with trays := v, cooling := { s.cooling with zones := w }, counts := c } = f s := by
      intros; rfl) : f t = f s := by
  obtain ⟨v, w, c, rfl⟩ := h.frame
  exact hf s v w c

/-- A target of 0 lifts no tray. -/
theorem Lifts.refl (s : State) : Lifts (fun _ => 0) s s where
  tray tr := by simp
  zone z := by simp
  frame := ⟨_, _, _, rfl⟩

theorem aimAt_zero (z : AirZone) : aimAt z 0 = fun _ => 0 := by
  funext y
  exact ite_self 0

section
variable {z : AirZone} {d : Nat}

theorem Lifts.trayAt_aimAt (h : Lifts (aimAt z d) s t) (tr : Tray) : t.trayAt tr = { s.trayAt tr with
    duty := if zoneOfTray tr = z then max (s.trayAt tr).duty d else (s.trayAt tr).duty } := by
  rw [h.tray, aimAt]
  split
  · rfl
  · rw [Nat.max_zero]

theorem Lifts.zoneAt_aimAt (h : Lifts (aimAt z d) s t) : t.zoneAt z = { s.zoneAt z with
    target := if (traysOf z).any fun tr => (s.trayAt tr).duty < d then d else (s.zoneAt z).target } := by
  rw [h.zone, aimAt, if_pos rfl]

theorem Lifts.zoneAt_of_ne (h : Lifts (aimAt z d) s t) {y : AirZone} (hy : y ≠ z) : t.zoneAt y = s.zoneAt y := by
  rw [h.zone, aimAt, if_neg hy]
  simp

end

theorem foldl_lift {l : List Tray} (hl : l.Nodup) (d : Nat) (s : State) : ∃ c,
    (l.filter fun tr => (s.trayAt tr).duty < d).foldl (fun t tr => t.setDuty tr d) s =
      { withDuties l (max d) s with counts := c } := by
  obtain ⟨c, e⟩ := foldl_setDuty_counted (fun _ => d) (hl.filter fun tr => (s.trayAt tr).duty < d) s
  exact ⟨c, e.trans (congrArg (fun v => { s with trays := v, counts := c }) (dutied_below l d s.trays))⟩

/-- No tray below a duty: lifting them to it changes nothing. -/
theorem withDuties_of_not_below {l : List Tray} {d : Nat} (h : ∀ tr ∈ l, d ≤ (s.trayAt tr).duty) :
    withDuties l (max d) s = s := by
  have same : dutied l (max d) s.trays = s.trays := look_ext fun tr => by
    rw [look_dutied]
    split
    · next hm => exact congrArg (fun x => { s.trayAt tr with duty := x }) (max_eq_right (h tr hm))
    · rfl
  exact congrArg (fun v => { s with trays := v }) same

/-- A raise: the zone's target written when some tray stands below it, and its trays lifted. -/
theorem raise_counted (z : AirZone) (s : State) : ∃ c, s.raise z =
    { withDuties (traysOf z) (max (aimOf s z)) (s.setZone z { s.zoneAt z with
        target := if (traysOf z).any fun tr => (s.trayAt tr).duty < aimOf s z then aimOf s z
          else (s.zoneAt z).target }) with counts := c } := by
  unfold State.raise
  change ∃ c, (if ((traysOf z).filter fun tr => (s.trayAt tr).duty < aimOf s z).isEmpty then s else
    ((traysOf z).filter fun tr => (s.trayAt tr).duty < aimOf s z).foldl (fun t tr => t.setDuty tr (aimOf s z))
      (s.setZone z { s.zoneAt z with target := aimOf s z })) = _
  by_cases below : (traysOf z).any fun tr => (s.trayAt tr).duty < aimOf s z
  · rw [if_pos below, if_neg (by simpa using below)]
    exact foldl_lift (nodup_traysOf z) _ _
  · have none : ∀ tr ∈ traysOf z, aimOf s z ≤ (s.trayAt tr).duty := by simpa using below
    have same : s.setZone z { s.zoneAt z with target := (s.zoneAt z).target } = s :=
      congrArg (fun w => { s with cooling := { s.cooling with zones := w } }) (put_look ..)
    rw [if_neg below, if_pos (by simpa using none), same, withDuties_of_not_below none]
    exact ⟨_, rfl⟩

theorem raise_lifts (z : AirZone) (s : State) : Lifts (aimAt z (aimOf s z)) s (s.raise z) := by
  obtain ⟨c, e⟩ := raise_counted z s
  refine ⟨fun tr => ?_, fun y => ?_, dutied .., put .., c, e⟩
  · rw [e]
    refine (trayAt_withDuties (traysOf z) _ (s.setZone z _) tr).trans ?_
    by_cases h : zoneOfTray tr = z
    · rw [if_pos (mem_traysOf.2 h), aimAt, if_pos h, max_comm]
      rfl
    · rw [if_neg fun k => h (mem_traysOf.1 k), aimAt, if_neg h, Nat.max_zero]
      rfl
  · rw [e]
    refine (zoneAt_setZone ..).trans ?_
    by_cases h : y = z
    · subst h
      simp [aimAt]
    · simp [aimAt, h]

/-- Work on both zones, one after the other: each zone is lifted once. -/
theorem Lifts.trans {d e : AirZone → Nat} (h : Lifts d s t) (k : Lifts e t u) (once : ∀ z, d z = 0 ∨ e z = 0) :
    Lifts (fun z => max (d z) (e z)) s u where
  tray tr := by rw [k.tray, h.tray, Nat.max_assoc]
  zone z := by
    have trays : ∀ tr ∈ traysOf z, (t.trayAt tr).duty = max (s.trayAt tr).duty (d z) := fun tr hm => by
      rw [h.tray, mem_traysOf.1 hm]
    rw [k.zone, h.zone]
    rcases once z with hd | he
    · have same : ((traysOf z).any fun tr => (t.trayAt tr).duty < e z) =
          (traysOf z).any fun tr => (s.trayAt tr).duty < e z :=
        Bool.eq_iff_iff.2 (by
          rw [List.any_eq_true, List.any_eq_true]
          exact exists_congr fun tr => and_congr_right fun hm => by rw [trays tr hm, hd, Nat.max_zero])
      simp [same, hd]
    · simp [he]
  frame := by
    obtain ⟨_, _, _, rfl⟩ := h.frame
    obtain ⟨v, w, c, rfl⟩ := k.frame
    exact ⟨v, w, c, rfl⟩

/-- Lifted trays change no floor and no demand, so no zone's target. -/
theorem Lifts.aim {d : AirZone → Nat} (h : Lifts d s t) (z : AirZone) : aimOf t z = aimOf s z := by
  have failed : ∀ tr, (t.trayAt tr).failed = (s.trayAt tr).failed := fun tr => by rw [h.tray]
  have cooling : t.anyNotCooling = s.anyNotCooling := by
    rw [Bool.eq_iff_iff, anyNotCooling_iff, anyNotCooling_iff]
    exact exists_congr fun tr => by rw [h.tray]
  have floors : t.floors z = s.floors z := by
    have unknown : (t.zoneAt z).unknown = (s.zoneAt z).unknown := by rw [h.zone]
    have temp : (t.zoneAt z).temp = (s.zoneAt z).temp := by rw [h.zone]
    simp only [State.floors, failed, unknown, temp, h.read (State.holdEffective .coolingOverride), cooling]
  have demand : (t.zoneAt z).demand = (s.zoneAt z).demand := by rw [h.zone]
  rw [aimOf, aimOf, State.targetFor, State.targetFor, floors, demand, h.read (·.settings)]

theorem raiseBoth_lifts (s : State) : Lifts (aimOf s) s s.raiseBoth := by
  have first := raise_lifts .zoneL s
  have both := first.trans (raise_lifts .zoneR (s.raise .zoneL)) fun z => by cases z <;> simp [aimAt]
  have aims : (fun z => max (aimAt .zoneL (aimOf s .zoneL) z)
      (aimAt .zoneR (aimOf (s.raise .zoneL) .zoneR) z)) = aimOf s := by
    rw [first.aim]
    funext z
    cases z <;> simp [aimAt]
  rwa [aims] at both

/-- A raise of both zones where a condition holds, as the statements write its outcome: `u` has the trays and zones
of `s`, and brings them to the targets of tray minimum `m` and override `ov`. -/
theorem raiseBoth_when {b : Prop} [Decidable b] {m : Nat} {ov : Bool} (trays : u.trays = s.trays)
    (cooling : u.cooling = s.cooling)
    (aim : b → ∀ z, aimOf u z = max (s.zoneAt z).demand (max m (if ov then 100 else floorDuty (s.floors z))))
    (h : t = if b then u.raiseBoth else u) :
    (∀ tr, t.trayAt tr = { s.trayAt tr with duty := if b then raisedDuty s m ov tr else (s.trayAt tr).duty }) ∧
      (∀ z, t.zoneAt z = if b then raisedZone s m ov z else s.zoneAt z) ∧
      ∃ v w c, t = { u with trays := v, cooling := { s.cooling with zones := w }, counts := c } := by
  have tray : ∀ tr, u.trayAt tr = s.trayAt tr := fun tr => congrArg (look · tr) trays
  have zone : ∀ z, u.zoneAt z = s.zoneAt z := fun z =>
    congrArg (fun x : Cooling => look x.zones (AirZone.idx z)) cooling
  subst h
  by_cases hb : b
  · have lifts := raiseBoth_lifts u
    simp only [if_pos hb]
    refine ⟨fun tr => ?_, fun z => ?_, ?_⟩
    · rw [lifts.tray, tray, aim hb]
      rfl
    · rw [lifts.zone, zone, aim hb]
      simp only [tray]
      rfl
    · rw [← cooling]
      exact lifts.frame
  · simp only [if_neg hb]
    refine ⟨tray, zone, u.trays, u.cooling.zones, u.counts, ?_⟩
    rw [← cooling]

/-! ## Settings answered (R66 to R68) -/

theorem respondSetting_eq (h : Header) (b : Bool) (r : Results) (s : State) :
    s.respondSetting h b r = s.answered h (if b then .adjusted else .ok) (if b then r else .none) := by
  cases b <;> rfl

/-- A clamped signed setting is OK exactly when it is the value asked for. -/
theorem respondSetting_clampInt (h : Header) {a : Nat} {n v : Int} (e : (a : Int) = n) (s : State) :
    s.respondSetting h (n ≠ v) (.value n) =
      s.answered h (if (a : Int) = v then .ok else .adjusted) (if (a : Int) = v then .none else .value a) := by
  subst e
  rw [respondSetting_eq]
  by_cases k : (a : Int) = v <;> simp [k]

theorem setHysteresis_eq (h : Header) {a : Nat} {v : Int} (e : (a : Int) = max 0 (min 20 v)) (s : State) :
    s.setHysteresis h v = s.tookSettings h { s.settings with hysteresis := a }
      (if (a : Int) = v then .ok else .adjusted) (if (a : Int) = v then .none else .value a) := by
  rw [← answered_changeSettings, ← respondSetting_clampInt h e]
  have applied : (clampInt 0 20 v).toNat = a := (congrArg Int.toNat e).symm
  unfold State.setHysteresis
  dsimp only
  rw [applied]
  rfl

theorem setMinimum_eq (h : Header) {a : Nat} {v : Int} (e : (a : Int) = max 20 (min 100 v)) (s : State) :
    s.setMinimum h v = State.answered
      (if s.settings.trayMin < a then (s.changeSettings { s.settings with trayMin := a }).raiseBoth
        else s.changeSettings { s.settings with trayMin := a }) h
      (if (a : Int) = v then .ok else .adjusted) (if (a : Int) = v then .none else .value a) := by
  rw [← respondSetting_clampInt h e]
  have applied : (clampInt 20 100 v).toNat = a := (congrArg Int.toNat e).symm
  unfold State.setMinimum
  dsimp only
  rw [applied]
  rfl

/-- The settings have no part in the floors: a new tray minimum takes its place in a raise's targets. -/
theorem aimOf_changeSettings (f : Settings) (z : AirZone) (s : State) :
    aimOf (s.changeSettings f) z = max (s.zoneAt z).demand (max f.trayMin (floorDuty (s.floors z))) := by
  rw [changeSettings_eq]
  rfl

/-- Settles O37. -/
theorem hysteresisAndTrayMinimum : Obligations.HysteresisAndTrayMinimum := by
  intro s h v hp
  refine ⟨fun a e => congrArg Host.Outcome.next ((request_of_passes hp ..).trans (setHysteresis_eq h e s)),
    fun a e => ⟨_, congrArg Host.Outcome.next ((request_of_passes hp ..).trans (setMinimum_eq h e s)), ?_⟩⟩
  obtain ⟨tray, zone, _, _, _, frame⟩ := raiseBoth_when (b := s.settings.trayMin < a) (m := a) (ov := false)
    (changeSettings_trays s { s.settings with trayMin := a }) (changeSettings_cooling ..)
    (fun _ z => aimOf_changeSettings ..) rfl
  refine ⟨tray, zone, ?_, ?_, ?_⟩
  · rw [frame]
    rfl
  · rw [frame]
    rfl
  · rw [frame, changeSettings_eq]
    rfl

/-! ## Holds (R153, R157) -/

theorem get_set (x : Latches) (k : HoldKind) (v : Bool) : (x.set k v).get k = v := by cases k <;> rfl

theorem set_of_get {x : Latches} {k : HoldKind} {v : Bool} (h : x.get k = v) : x.set k v = x := by
  subst h
  cases k <;> rfl

theorem holdEffective_iff (k : HoldKind) (s : State) :
    s.holdEffective k = true ↔ ∃ i, (look s.arbiter.latches i).get k = true := by
  have any : s.holdEffective k = s.arbiter.latches.toList.any (·.get k) := by cases k <;> rfl
  rw [any, List.any_eq_true]
  exact ⟨fun ⟨x, hx, h⟩ => ((mem_toList_iff _ _).1 hx).imp fun _ e => (congrArg (Latches.get · k) e).trans h,
    fun ⟨i, h⟩ => ⟨_, (mem_toList_iff _ _).2 ⟨i, rfl⟩, h⟩⟩

/-- A hold not in effect comes into effect exactly when a latch of it is set. -/
theorem holdEffective_set {k : HoldKind} (h : s.holdEffective k = false) (l : LinkId) (v : Bool) :
    (s.setLatches l ((s.latchesOf l).set k v)).holdEffective k = v := by
  have clear : ∀ i, (look s.arbiter.latches i).get k ≠ true := fun i e =>
    Bool.false_ne_true (h.symm.trans ((holdEffective_iff k s).2 ⟨i, e⟩))
  rw [Bool.eq_iff_iff, holdEffective_iff]
  constructor
  · rintro ⟨i, e⟩
    rw [setLatches_arbiter, look_put] at e
    split at e
    · rwa [get_set] at e
    · exact absurd e (clear i)
  · intro hv
    refine ⟨LinkId.idx l, ?_⟩
    rw [setLatches_arbiter, look_put_same, get_set, hv]

/-- A latch that has taken its value, with the event of a change, before any raise. -/
def latched (l : LinkId) (k : HoldKind) (v : Bool) (s : State) : State :=
  { s.setLatches l ((s.latchesOf l).set k v) with
    queues := if (s.latchesOf l).get k = v then s.queues
      else s.queues.map fun q => q.offer .holdChange (HoldKind.code k) (LinkId.code l)
        (u16 ((if v then 1 else 0) +
          if (s.setLatches l ((s.latchesOf l).set k v)).holdEffective k then 2 else 0)) s.arbiter.epoch }

/-- What setting a latch does, whether it stood so or not: an override coming into effect raises both zones. -/
theorem setLatch_eq (l : LinkId) (k : HoldKind) (v : Bool) (s : State) : s.setLatch l k v =
    if k = .coolingOverride ∧ v = true ∧ s.holdEffective k = false then (latched l k v s).raiseBoth
    else latched l k v s := by
  unfold State.setLatch latched
  by_cases stood : (s.latchesOf l).get k = v
  · have was : ¬(k = .coolingOverride ∧ v = true ∧ s.holdEffective k = false) := fun ⟨_, hv, e⟩ =>
      Bool.false_ne_true (e.symm.trans ((holdEffective_iff k s).2 ⟨LinkId.idx l, stood.trans hv⟩))
    have same : s.setLatches l (s.latchesOf l) = s :=
      congrArg (fun w => { s with arbiter := { s.arbiter with latches := w } }) (put_look ..)
    rw [if_pos stood, if_neg was, set_of_get stood, same, if_pos stood]
  · rw [if_neg stood, if_neg stood]
    refine if_congr (and_congr_right fun _ => ?_) rfl rfl
    cases was : s.holdEffective k with
    | true => simp
    | false => simp [holdEffective_set was]

/-- The floor of a COOLING_OVERRIDE coming into effect stands in every raise's target (R58). -/
theorem aimOf_latched {l : LinkId} {v : Bool} (hv : v = true) (was : s.holdEffective .coolingOverride = false)
    (z : AirZone) : aimOf (latched l .coolingOverride v s) z =
      max (s.zoneAt z).demand (max s.settings.trayMin (if true then 100 else floorDuty (s.floors z))) := by
  have now : (latched l .coolingOverride v s).holdEffective .coolingOverride = true :=
    (holdEffective_set was l v).trans hv
  rw [aimOf, State.targetFor, floorDuty_of_forced (s := latched l .coolingOverride v s) z (.inl now), if_pos rfl]
  rfl

/-- Settles O53: the latch taken, then the raise an override brings, then the answer. -/
theorem holdsActOnTheOwnLatch : Obligations.HoldsActOnTheOwnLatch := by
  intro s h hp
  refine ⟨congrArg Host.Outcome.next (request_of_passes hp ..),
    congrArg Host.Outcome.next (request_of_passes hp ..), ?_⟩
  rintro k v i rfl
  obtain ⟨t, ht⟩ : ∃ t, t = s.setLatch h.link k v := ⟨_, rfl⟩
  have answer : s.holdRequest h (some k) v = t.respond h.link h.tag .ok (t.holdResults k) := ht ▸ rfl
  have run : exec (if v then .setHold h (some k) else .releaseHold h (some k)) s =
      .next (s.holdRequest h (some k) v) := by
    cases v <;> exact congrArg Host.Outcome.next (request_of_passes hp ..)
  obtain ⟨tray, zone, _, _, _, frame⟩ := raiseBoth_when (s := s) (u := latched h.link k v s)
    (m := s.settings.trayMin) (ov := true) rfl rfl
    (fun ⟨hk, hv, was⟩ => by subst hk; exact aimOf_latched hv was) (ht.trans (setLatch_eq h.link k v s))
  refine ⟨_, run.trans (congrArg _ answer), ?_⟩
  refine ⟨?_, ?_, ?_, ?air, ?_, ?_, ?_⟩
  case air =>
    rintro _ rfl
    simp only [decide_eq_true_eq]
    exact ⟨tray, zone⟩
  all_goals
    subst frame
    rfl

end Sys2Proof.Power
end

section
/-! The fan curve, the temperature thresholds, and the evaluation of a zone's temperature state (R54, R60 to R68,
R158, R165). -/

namespace Sys2Proof.Power
open Sys2Proof Sys2Proof.Machine

variable {s t u : State}

/-! ## The temperature state (R61) -/

/-- Rising to the highest threshold reached and falling past each clear point is one choice from the top. -/
theorem nextTempState_eq (f : Settings) (x : Int) (old : TempState) : nextTempState f x old = tempAfter f x old := by
  unfold nextTempState reached tempAfter
  cases old with
  | normal => grind [TempState.rank, fallFrom]
  | warn => grind [TempState.rank, fallFrom, clearPoint]
  | crit => grind [TempState.rank, fallFrom, clearPoint]
  | shutdown => grind [TempState.rank, fallFrom, clearPoint]

/-! ## Conditions at their points (R158, R159, R164) -/

section
variable {n m : Fin 57} {v w : Bool}

theorem condition_of_recording (h : s.alarms.recording = true) : s.condition n v =
    { s with alarms := { s.alarms with recorded := put s.alarms.recorded n v } } :=
  if_pos h

theorem condition_of_taking (h : s.alarms.recording = false) : s.condition n v = s.applyCondition n v :=
  if_neg (by simp [h])

theorem applyCondition_recording (n : Fin 57) (v : Bool) (s : State) :
    (s.applyCondition n v).alarms.recording = s.alarms.recording := by
  rcases applyCondition_cases s n v with e | e
  · rw [e]
  · rw [e]
    rfl

theorem applyCondition_points (n : Fin 57) (v : Bool) (s : State) :
    (s.applyCondition n v).alarms.points = put s.alarms.points n ((look s.alarms.points n).onCondition v) := by
  unfold State.applyCondition
  by_cases e : (look s.alarms.points n).onCondition v = look s.alarms.points n
  · rw [if_pos e, e, put_look]
  · rw [if_neg e]
    rfl

theorem applyCondition_queues (n : Fin 57) (v : Bool) (s : State) :
    (s.applyCondition n v).queues = conditioned s n v s.queues := by
  unfold State.applyCondition conditioned
  by_cases e : (look s.alarms.points n).onCondition v = look s.alarms.points n
  · rw [if_pos e, if_pos e]
  · rw [if_neg e, if_neg e]
    rfl

/-- The record of one point's move does not depend on another point's. -/
theorem conditioned_applyCondition (h : m ≠ n) (qs : Vector EventQueue 3) (s : State) :
    conditioned (s.applyCondition n v) m w qs = conditioned s m w qs := by
  unfold conditioned
  rw [applyCondition_points, look_put_ne _ _ h, applyCondition_arbiter]

end

/-- The three conditions of a zone's temperature state. -/
theorem handTempConditions_eq (z : AirZone) (st : TempState) (s : State) : s.handTempConditions z st =
    ((s.condition (zoneWarn z) (decide (st ≠ .normal))).condition (zoneCrit z)
      (decide (st = .crit ∨ st = .shutdown))).condition (zoneShutdown z) (decide (st = .shutdown)) := by
  cases st <;> rfl

theorem zoneCrit_ne_zoneWarn (z : AirZone) : zoneCrit z ≠ zoneWarn z := by cases z <;> decide
theorem zoneShutdown_ne_zoneWarn (z : AirZone) : zoneShutdown z ≠ zoneWarn z := by cases z <;> decide
theorem zoneShutdown_ne_zoneCrit (z : AirZone) : zoneShutdown z ≠ zoneCrit z := by cases z <;> decide

theorem handTempConditions_of_recording (z : AirZone) (st : TempState) (h : s.alarms.recording = true) :
    s.handTempConditions z st = { s with alarms := { s.alarms with
      recorded := put (put (put s.alarms.recorded (zoneWarn z) (decide (st ≠ .normal)))
        (zoneCrit z) (decide (st = .crit ∨ st = .shutdown))) (zoneShutdown z) (decide (st = .shutdown)) } } := by
  rw [handTempConditions_eq, condition_of_recording (n := zoneWarn z) h,
    condition_of_recording (n := zoneCrit z) (by exact h), condition_of_recording (n := zoneShutdown z) (by exact h)]

theorem handTempConditions_of_taking (z : AirZone) (st : TempState) (h : s.alarms.recording = false) :
    s.handTempConditions z st =
      ((s.applyCondition (zoneWarn z) (decide (st ≠ .normal))).applyCondition (zoneCrit z)
        (decide (st = .crit ∨ st = .shutdown))).applyCondition (zoneShutdown z) (decide (st = .shutdown)) := by
  rw [handTempConditions_eq, condition_of_taking (n := zoneWarn z) h,
    condition_of_taking (n := zoneCrit z) (by rw [applyCondition_recording, h]),
    condition_of_taking (n := zoneShutdown z) (by rw [applyCondition_recording, applyCondition_recording, h])]

/-- Each of the three points takes its condition. -/
theorem handTempConditions_points (z : AirZone) (st : TempState) (h : s.alarms.recording = false) :
    look (s.handTempConditions z st).alarms.points (zoneWarn z) =
        (look s.alarms.points (zoneWarn z)).onCondition (decide (st ≠ .normal)) ∧
      look (s.handTempConditions z st).alarms.points (zoneCrit z) =
        (look s.alarms.points (zoneCrit z)).onCondition (decide (st = .crit ∨ st = .shutdown)) ∧
      look (s.handTempConditions z st).alarms.points (zoneShutdown z) =
        (look s.alarms.points (zoneShutdown z)).onCondition (decide (st = .shutdown)) := by
  have critWarn := zoneCrit_ne_zoneWarn z
  have shutdownWarn := zoneShutdown_ne_zoneWarn z
  have shutdownCrit := zoneShutdown_ne_zoneCrit z
  rw [handTempConditions_of_taking z st h, applyCondition_points, applyCondition_points, applyCondition_points,
    look_put_ne _ _ critWarn, look_put_ne _ _ shutdownCrit, look_put_ne _ _ shutdownWarn]
  exact ⟨by rw [look_put_ne _ _ shutdownWarn.symm, look_put_ne _ _ critWarn.symm, look_put_same],
    by rw [look_put_ne _ _ shutdownCrit.symm, look_put_same], look_put_same ..⟩

theorem handTempConditions_queues (z : AirZone) (st : TempState) (h : s.alarms.recording = false) :
    (s.handTempConditions z st).queues = conditioned s (zoneShutdown z) (decide (st = .shutdown))
      (conditioned s (zoneCrit z) (decide (st = .crit ∨ st = .shutdown))
        (conditioned s (zoneWarn z) (decide (st ≠ .normal)) s.queues)) := by
  rw [handTempConditions_of_taking z st h, applyCondition_queues, applyCondition_queues, applyCondition_queues,
    conditioned_applyCondition (zoneShutdown_ne_zoneCrit z), conditioned_applyCondition (zoneShutdown_ne_zoneWarn z),
    conditioned_applyCondition (zoneCrit_ne_zoneWarn z)]

/-! ## A change of temperature state (R60, R62, R63) -/

/-- The zone in its new state, its conditions handed and its event sent. -/
def told (z : AirZone) (st : TempState) (s : State) : State :=
  ((s.setZone z { s.zoneAt z with temp := st }).handTempConditions z st).report .zoneTempState (AirZone.code z)
    (u16 st.rank) (s16 (s.zoneAt z).tz)

/-- The target the new state raises the zone's trays to; none below CRIT. -/
def hotTarget (z : AirZone) (st : TempState) (s : State) : Nat :=
  if st = .crit ∨ st = .shutdown then max (s.zoneAt z).demand (max s.settings.trayMin 100) else 0

/-- A thermal-off order for each slot of a list that draws power. -/
def ordersOff (l : List Slot) (s : State) : List Task :=
  (l.filter fun sl => (s.slotAt sl).state = .powering ∨ (s.slotAt sl).state = .powered).map .thermalOff

theorem told_reports (z : AirZone) (st : TempState) (s : State) :
    Reports (s.setZone z { s.zoneAt z with temp := st }) (told z st s) :=
  (handTempConditions_reports ..).trans (report_reports ..)

theorem zoneAt_told (z y : AirZone) (st : TempState) (s : State) :
    (told z st s).zoneAt y = if y = z then { s.zoneAt z with temp := st } else s.zoneAt y :=
  ((told_reports z st s).read (·.zoneAt y)).trans (zoneAt_setZone ..)

/-- A zone in CRIT or SHUTDOWN has its floor of 100 (R58). -/
theorem aimOf_hot {z : AirZone} (h : (s.zoneAt z).temp = .crit ∨ (s.zoneAt z).temp = .shutdown) :
    aimOf s z = max (s.zoneAt z).demand (max s.settings.trayMin 100) := by
  have floor : look (s.floors z) 2 = true := by
    rcases h with e | e <;> simp [State.floors, look, e]
  rw [aimOf, State.targetFor, floorDuty, if_pos (by simp [floor])]

theorem told_queues (z : AirZone) (st : TempState) (s : State) : (told z st s).queues =
    ((s.setZone z { s.zoneAt z with temp := st }).handTempConditions z st).queues.map fun q =>
      q.offer .zoneTempState (AirZone.code z) (u16 st.rank) (s16 (s.zoneAt z).tz) s.arbiter.epoch := by
  rw [told, report_queues, (handTempConditions_reports ..).read (·.arbiter)]
  rfl

theorem aimOf_told {z : AirZone} {st : TempState} (h : st = .crit ∨ st = .shutdown) (s : State) :
    aimOf (told z st s) z = hotTarget z st s := by
  have settings : (told z st s).settings = s.settings := (told_reports z st s).read (·.settings)
  have zone : (told z st s).zoneAt z = { s.zoneAt z with temp := st } := (zoneAt_told ..).trans (if_pos rfl)
  rw [aimOf_hot (by rwa [zone]), settings, zone, hotTarget, if_pos h]

theorem ordersOff_cons (sl : Slot) (l : List Slot) (s : State) : ordersOff (sl :: l) s =
    if (s.slotAt sl).state = .powering ∨ (s.slotAt sl).state = .powered then .thermalOff sl :: ordersOff l s
    else ordersOff l s := by
  unfold ordersOff
  split
  · next h => rw [List.filter_cons_of_pos (by simpa using h), List.map_cons]
  · next h => rw [List.filter_cons_of_neg (by simpa using h)]

theorem foldl_order_eq (l : List Slot) (s : State) :
    l.foldl (fun t sl => if (t.slotAt sl).state = .powering ∨ (t.slotAt sl).state = .powered then
      t.hand (.thermalOff sl) else t) s = { s with agenda := s.agenda ++ ordersOff l s } := by
  induction l generalizing s with
  | nil => exact congrArg (fun g => { s with agenda := g }) (List.append_nil _).symm
  | cons sl l ih =>
    rw [List.foldl_cons, ih, ordersOff_cons]
    split
    · have order : s.hand (.thermalOff sl) = { s with agenda := s.agenda ++ [.thermalOff sl] } := if_neg (by simp)
      rw [order]
      exact congrArg (fun g => { s with agenda := g }) (List.append_assoc ..)
    · rfl

theorem evaluateTemp_of_same {z : AirZone} (h : nextTempState s.settings (s.zoneAt z).tz (s.zoneAt z).temp =
    (s.zoneAt z).temp) : s.evaluateTemp z = s :=
  if_pos h

/-- The zone in its new state, with the thermal-off orders that SHUTDOWN brings, before any raise. -/
def entered (z : AirZone) (st : TempState) (s : State) : State :=
  { told z st s with agenda := s.agenda ++ if st = .shutdown then ordersOff (slotsOf z) s else [] }

theorem trayAt_entered (z : AirZone) (st : TempState) (tr : Tray) (s : State) :
    (entered z st s).trayAt tr = s.trayAt tr :=
  (told_reports z st s).read (·.trayAt tr)

theorem zoneAt_entered (z y : AirZone) (st : TempState) (s : State) :
    (entered z st s).zoneAt y = if y = z then { s.zoneAt z with temp := st } else s.zoneAt y :=
  zoneAt_told ..

theorem Lifts.withAgenda {d : AirZone → Nat} (h : Lifts d s t) (g : List Task) :
    Lifts d { s with agenda := g } { t with agenda := g } := by
  refine ⟨h.tray, h.zone, ?_⟩
  obtain ⟨v, w, c, rfl⟩ := h.frame
  exact ⟨v, w, c, rfl⟩

/-- CRIT and SHUTDOWN raise the zone; the other states lift nothing (R62). -/
theorem told_lifts (z : AirZone) (st : TempState) (s : State) : Lifts (aimAt z (hotTarget z st s)) (told z st s)
    (if st = .crit ∨ st = .shutdown then (told z st s).raise z else told z st s) := by
  by_cases hot : st = .crit ∨ st = .shutdown
  · rw [if_pos hot, ← aimOf_told hot]
    exact raise_lifts ..
  · rw [if_neg hot, hotTarget, if_neg hot, aimAt_zero]
    exact .refl _

/-- A change of temperature state: the conditions, the event and the orders, and the zone lifted. -/
theorem evaluateTemp_lifts {z : AirZone} {st : TempState}
    (h : nextTempState s.settings (s.zoneAt z).tz (s.zoneAt z).temp = st) (change : st ≠ (s.zoneAt z).temp) :
    Lifts (aimAt z (hotTarget z st s)) (entered z st s) (s.evaluateTemp z) := by
  have lifts := told_lifts z st s
  have run : ∀ t, t = (if st = .crit ∨ st = .shutdown then (told z st s).raise z else told z st s) →
      s.evaluateTemp z = if st = .shutdown then t.orderThermalOff z else t := by
    rintro _ rfl
    unfold State.evaluateTemp
    dsimp only
    rw [h, if_neg change]
    rfl
  generalize (if st = .crit ∨ st = .shutdown then (told z st s).raise z else told z st s) = t at lifts run
  have agenda : t.agenda = s.agenda := (lifts.read (·.agenda)).trans ((told_reports z st s).read (·.agenda))
  have orders : ordersOff (slotsOf z) t = ordersOff (slotsOf z) s :=
    (lifts.read (ordersOff (slotsOf z))).trans ((told_reports z st s).read (ordersOff (slotsOf z)))
  have ordered : s.evaluateTemp z =
      { t with agenda := s.agenda ++ if st = .shutdown then ordersOff (slotsOf z) s else [] } := by
    rw [run t rfl, ← orders, ← agenda]
    split
    · exact foldl_order_eq ..
    · rw [List.append_nil]
  rw [ordered]
  exact lifts.withAgenda _

/-- A state with all that an evaluation may write as it is in `s`. -/
def withoutEvaluation (s t : State) : State :=
  { t with
    cooling := s.cooling, trays := s.trays, alarms := s.alarms, queues := s.queues
    counts := s.counts, agenda := s.agenda }

/-! ## The requests (R66, R68) -/

theorem setCurve_eq {points : List Breakpoint} {ts : Vector Int 6} {ds : Vector Nat 6}
    (e : curveOf points = some (ts, ds)) (h : Header) (s : State) : s.setCurve h points =
    (s.changeSettings { s.settings with curveTemp := ts, curveDuty := ds }).deriveSensorless.answered h
      (if points.any breakpointAdjusted then .adjusted else .ok)
      (if points.any breakpointAdjusted then .curve ts ds else .none) := by
  unfold State.setCurve
  rw [e]
  exact respondSetting_eq ..

theorem setCurve_of_invalid {points : List Breakpoint} (e : curveOf points = none) (h : Header) (s : State) :
    s.setCurve h points = s.answered h .invalid .none := by
  unfold State.setCurve
  rw [e]
  rfl

/-- With valid sensors in both zones a new curve derives none again (R54). -/
theorem deriveSensorless_of_sensors (h : ∀ z, s.zoneSensors z ≠ []) : s.deriveSensorless = s := by
  have skip : ∀ z, (if (s.zoneSensors z).isEmpty then s.deriveZone z else s) = s := fun z =>
    if_neg (by simpa using h z)
  exact (congrArg (fun t => if (t.zoneSensors .zoneR).isEmpty then t.deriveZone .zoneR else t) (skip .zoneL)).trans
    (skip .zoneR)

theorem setThresholds_eq (h : Header) {w c d : Int} (wc : clampTemp w < clampTemp c) (cd : clampTemp c < clampTemp d)
    (s : State) : s.setThresholds h w c d =
    State.answered (((s.changeSettings { s.settings with
        warnAt := clampTemp w, critAt := clampTemp c, shutdownAt := clampTemp d }).evaluateTemp .zoneL).evaluateTemp
          .zoneR) h
      (if clampTemp w = w ∧ clampTemp c = c ∧ clampTemp d = d then .ok else .adjusted)
      (if clampTemp w = w ∧ clampTemp c = c ∧ clampTemp d = d then .none
        else .thresholds (clampTemp w) (clampTemp c) (clampTemp d)) := by
  unfold State.setThresholds
  dsimp only
  have clamped : (decide (clampTemp w ≠ w) || decide (clampTemp c ≠ c) || decide (clampTemp d ≠ d)) =
      !decide (clampTemp w = w ∧ clampTemp c = c ∧ clampTemp d = d) := by
    simp [Bool.decide_and, Bool.or_assoc]
  rw [if_pos ⟨wc, cd⟩, respondSetting_eq, clamped]
  by_cases same : clampTemp w = w ∧ clampTemp c = c ∧ clampTemp d = d
  · simp only [same, and_self, decide_true, Bool.not_true, if_true, Bool.false_eq_true, if_false]
  · simp only [same, decide_false, Bool.not_false, if_true, if_false]

theorem setThresholds_of_disorder {w c d : Int} (disorder : ¬(clampTemp w < clampTemp c ∧ clampTemp c < clampTemp d))
    (h : Header) (s : State) : s.setThresholds h w c d = s.answered h .invalid .none :=
  if_neg disorder

theorem exec_setFanCurve {h : Header} (hp : s.Passes .configure h) (points : List Breakpoint) :
    exec (.setFanCurve h points) s = .next (s.setCurve h points).settle :=
  congrArg (fun t => Host.Outcome.next (State.settle t)) (request_of_passes hp ..)

theorem exec_setTemperatureThresholds {h : Header} (hp : s.Passes .configure h) (w c d : Int) :
    exec (.setTemperatureThresholds h w c d) s = .next (s.setThresholds h w c d).settle :=
  congrArg (fun t => Host.Outcome.next (State.settle t)) (request_of_passes hp ..)

/-- Settles O38: each request, then what an evaluation that changes the state writes, field by field. -/
theorem curveAndThresholdsApply : Obligations.CurveAndThresholdsApply := by
  refine ⟨fun s h hp hq => ⟨fun points e => ?_, fun points ts ds e => ?_, ?_⟩, ?_, fun _ _ => rfl⟩
  · rw [exec_setFanCurve hp, setCurve_of_invalid e]
    exact congrArg _ (settle_of_quiet _ hq)
  · rw [exec_setFanCurve hp, setCurve_eq e]
    refine ⟨_, rfl, ?_, fun sensors => ?_⟩
    · rw [lasting_settle, answered_lasting h _ _ (lasting_deriveSensorless _), answered_changeSettings]
    · rw [deriveSensorless_of_sensors (by rw [changeSettings_eq]; exact sensors), answered_changeSettings]
      exact settle_of_quiet _ hq
  · rintro w c d _ _ _ rfl rfl rfl
    rw [exec_setTemperatureThresholds hp]
    refine ⟨fun disorder => ?_, ?_⟩
    · rw [setThresholds_of_disorder disorder]
      exact congrArg _ (settle_of_quiet _ hq)
    · rintro wc cd f u st r rfl rfl rfl hu
      rw [setThresholds_eq h wc cd, (changeSettings_eq _ s).trans hu.symm]
      refine ⟨_, rfl, rfl, ?_⟩
      rw [lasting_settle, answered_lasting h _ _ ((lasting_evaluateTemp ..).trans (lasting_evaluateTemp ..)), hu]
      rfl
  · rintro s z st _ hst rfl
    rw [← nextTempState_eq] at hst
    refine ⟨fun same => evaluateTemp_of_same (hst.symm.trans same), fun change => ?_⟩
    have lifts := evaluateTemp_lifts hst.symm change
    have told := told_reports z st s
    have queues := (lifts.read (·.queues)).trans (told_queues z st s)
    refine ⟨?_, fun y hy => ?_, fun taking => ?_, fun recording => ⟨?_, ?_⟩, fun taking => ?_,
      lifts.read (·.agenda), ?_⟩
    · intro target ht
      have ht : target = hotTarget z st s := ht
      subst ht
      refine ⟨(lifts.read (·.cooling.slots)).trans (told.read (·.cooling.slots)),
        (lifts.read (·.cooling.cps)).trans (told.read (·.cooling.cps)), ?_, fun tr => ?_⟩
      · simp only [lifts.zoneAt_aimAt, zoneAt_entered, trayAt_entered, if_pos]
      · rw [lifts.trayAt_aimAt, trayAt_entered]
    · rw [lifts.zoneAt_of_ne hy, zoneAt_entered, if_neg hy]
    · rw [lifts.read (·.alarms)]
      exact handTempConditions_points z st taking
    · exact (lifts.read (·.alarms)).trans
        (congrArg (·.alarms) (handTempConditions_of_recording (s := s.setZone ..) z st recording))
    · rw [queues, handTempConditions_of_recording z st (by exact recording)]
      rfl
    · rw [queues, handTempConditions_queues z st (by exact taking)]
      rfl
    · exact (lifts.read (withoutEvaluation s)).trans (told.read (withoutEvaluation s))

end Sys2Proof.Power
end
